-- ==== Sys2Proof/Word.lean ====
section
/-! DEFINITION. The words the part exchanges with its partners (spec 09, section 9.5): body words of 32 bits, bytes of
frames, request tags of 16 bits. Everything the manual counts or indexes is a Nat or an Int, not one of these. -/

namespace Sys2Proof

/-- A body word of the control port: 32 bits (9.5.1). -/
abbrev Word := BitVec 32

/-- A byte of a frame, and a character of a text. -/
abbrev Byte := BitVec 8

/-- The 16-bit request tag a response echoes (R181). -/
abbrev Tag := BitVec 16

/-- A text as the manual speaks of one: a language label (R1), a name tag (R159), a cue (R80). -/
abbrev Text := List Byte

end Sys2Proof
end

