-- ==== Sys2Proof/Syntax.lean ====
section
/-! DEFINITION. The commands of the block: one constructor of Instr for each row of spec/opcode_table.json. The table gives
no operands; a host request carries its 16-bit tag and the 32-bit body words of the request catalogue (9.5.2), in order and
uninterpreted, so that a value outside a field's coding (R187) is a command like any other; an answer from a link carries
the fields of its frame (9.5.4 to 9.5.6); an event of a timer names the record whose timer it is (notes/assumptions 1). -/

namespace Sys2Proof

/-- Where a cue is sent (R80): a booth, or every booth that relays from the sender. -/
inductive CueTarget where
  | booth (b : Fin 32)
  | relayTakers
deriving DecidableEq, Repr

/-- The indication of a reply frame with its argument (R68). A RELAY_PICK of `none` is FLOOR. -/
inductive Indication where
  | quiet
  | micRequest
  | micRelease
  | dirA
  | dirB
  | relayPick (slot : Option (BitVec 6))
  | cueOut (target : CueTarget) (text : Text)
  | login (account : BitVec 10)
  | logout
deriving DecidableEq, Repr

/-- The acknowledgement of a reply frame (R68). -/
inductive Ack where
  | none
  | taken
  | busy
  | refused
deriving DecidableEq, Repr

/-- A reply frame of the booth bus, its check passed (R68, 9.5.4). -/
structure Reply where
  address : Fin 96
  ack : Ack
  ackBit : Bool
  indicationBit : Bool
  indication : Indication
deriving DecidableEq, Repr

/-- The reason of a REJECT (R52). -/
inductive RejectReason where
  | busy
  | noPort
  | badSource
deriving DecidableEq, Repr

/-- The health report of an identified receiver (R124). -/
inductive Health where
  | ok
  | fault
deriving DecidableEq, Repr

/-- The outcome of a RESULT reply (R114): a DONE carries identity data exactly when it answers an IDENTIFY. -/
inductive ResultOutcome where
  | pending
  | done
  | doneIdentify (serial : Word) (battery : Nat) (health : Health)
  | failed
deriving DecidableEq, Repr

/-- The commands, row by row. Operands named after the catalogue's fields (9.5.2) are body words. -/
inductive Instr where
  | hardReset
  | resetRecoveryEnd
  | notReadyExchange
  | frameError (frame : List Byte)
  | nop (tag : Tag)
  | selectHall (tag : Tag) (hall : Word)
  | openList (tag : Tag) (table start filter : Word)
  | nextRecord (tag : Tag)
  | defineLanguage (tag : Tag) (label : Word)
  | retireLanguage (tag : Tag) (slot : Word)
  | setWidth (tag : Tag) (hall width : Word)
  | setChannel (tag : Tag) (hall channel language fallback interlock : Word)
  | setBoothPlan (tag : Tag) (booth home a b relay : Word)
  | clearDraft (tag : Tag)
  | readPlan (tag : Tag) (copy hall booth : Word)
  | commitPlan (tag : Tag) (version : Word)
  | applyComplete
  | readApplyReport (tag : Tag)
  | setHall (tag : Tag) (hall organiser tariff : Word)
  | readHall (tag : Tag) (hall : Word)
  | setHallState (tag : Tag) (hall state : Word)
  | joinHalls (tag : Tag) (hall : Word)
  | splitHalls (tag : Tag) (hall : Word)
  | beaconFrame (hall : Fin 6)
  | matrixRetry (tag : Tag)
  | readRoute (tag : Tag) (destination : Word)
  | readLink (tag : Tag)
  | matrixDone (destination : Byte) (linkTag : BitVec 2)
  | matrixReject (destination : Byte) (linkTag : BitVec 2) (reason : RejectReason)
  | matrixConfirmTimeout
  | matrixProbeDue
  | present
  | alert
  | bbProbeDue (console : Fin 96)
  | bbPollReply (segment : Fin 2) (reply : Reply)
  | bbMalformedReply (segment : Fin 2)
  | bbReplyWindowExpiry (segment : Fin 2)
  | bbProbeReply (segment : Fin 2) (reply : Reply)
  | readConsole (tag : Tag) (console clear : Word)
  | readSegment (tag : Tag) (segment : Word)
  | forceMicOff (tag : Tag) (console : Word)
  | setRelay (tag : Tag) (booth pick : Word)
  | setBoothFloor (tag : Tag) (booth mode window limit login snoop forced lock : Word)
  | readBooth (tag : Tag) (booth : Word)
  | readChannel (tag : Tag) (hall channel : Word)
  | trefPulse
  | trefWatchExpiry
  | internalTick
  | serviceMinute (hall : Fin 6) (channel : Fin 32)
  | handoverExpiry (booth : Fin 32)
  | dutyWarn (console : Fin 96)
  | dutyOver (console : Fin 96)
  | pickupTimeout (ticket : Fin 8)
  | hireOverdue (receiver : Fin 4096)
  | hireLost (receiver : Fin 4096)
  | chargePoll
  | rlScanDue (rack : Fin 16)
  | rlScanReply (rack : Fin 16) (readings : List Bool)
  | rlReplyWindowExpiry
  | rlStartReply (rack : Fin 16) (accepted : Bool)
  | rlResultDue (rack : Fin 16)
  | rlResultReply (rack : Fin 16) (position : Nat) (outcome : ResultOutcome)
  | contactAttemptTimeout (rack : Fin 16)
  | setRack (tag : Tag) (rack role desk normal night : Word)
  | setSlot (tag : Tag) (slot enable attention wake : Word)
  | setScanProfile (tag : Tag) (profile : Word)
  | setChargePoll (tag : Tag) (interval : Word)
  | identifySlot (tag : Tag) (slot : Word)
  | readSlot (tag : Tag) (slot : Word)
  | readRack (tag : Tag) (rack : Word)
  | registerReceiver (tag : Tag) (serial : Word)
  | retireReceiver (tag : Tag) (serial : Word)
  | writeOff (tag : Tag) (serial : Word)
  | markFaulty (tag : Tag) (serial : Word)
  | clearFaulty (tag : Tag) (serial : Word)
  | setPool (tag : Tag) (threshold timeout : Word)
  | readQueue (tag : Tag) (desk : Word)
  | issue (tag : Tag) (account hall desk language : Word)
  | cancelTicket (tag : Tag) (ticket : Word)
  | readTicket (tag : Tag) (ticket : Word)
  | readReceiver (tag : Tag) (selector value : Word)
  | readListening (tag : Tag) (hall : Word)
  | openAccount (tag : Tag) (account kind name1 name2 tariff credit cap hireEndPresent hireEnd preference : Word)
  | setAccount (tag : Tag) (account name1 name2 tariff credit cap hireEndPresent hireEnd preference : Word)
  | suspend (tag : Tag) (account : Word)
  | resume (tag : Tag) (account : Word)
  | close (tag : Tag) (account : Word)
  | retireAccount (tag : Tag) (account : Word)
  | readAccount (tag : Tag) (account clear : Word)
  | setTariff (tag : Tag) (tariff blockLength blockRate cap hireLimit overdueRate lostGrace deposit lostFee minuteRate : Word)
  | readTariff (tag : Tag) (tariff : Word)
  | postPayment (tag : Tag) (account amount : Word)
  | freeze (tag : Tag) (account : Word)
  | thaw (tag : Tag) (account : Word)
  | setClock (tag : Tag) (clock : Word)
  | readClock (tag : Tag)
  | readCauses (tag : Tag)
  | setEnables (tag : Tag) (enables : Word)
  | pulseAttn (tag : Tag)
  | attnPulseEnd
  | readFaults (tag : Tag)
  | resetLinks (tag : Tag) (scope : Word)
  | resetAll (tag : Tag)
deriving DecidableEq, Repr

end Sys2Proof
end

