-- ==== Sys2Proof/WellFormed.lean ====
section
/-! DEFINITION. Which commands the wire can spell: the fields of a link frame within the values of 9.5.4 to 9.5.6 (a frame
that holds another value is not taken, R192), a FRAME_ERROR that has a frame at all, a RESET_LINKS that is not the RESET of
scope ALL. Every command has a meaning, well-formed or not; a meaning given an ill-formed answer treats it as R192 says. -/

namespace Sys2Proof

/-- A cue character: byte values 32 to 126 (9.5.4). -/
def cueCharacter (c : Byte) : Bool := 32 ≤ c.toNat && c.toNat ≤ 126

/-- The argument of an indication within its values: a cue text of 0 to 15 characters (R68). -/
def Indication.valid : Indication → Bool
  | .cueOut _ text => text.length ≤ 15 && text.all cueCharacter
  | .quiet => true
  | .micRequest => true
  | .micRelease => true
  | .dirA => true
  | .dirB => true
  | .relayPick _ => true
  | .login _ => true
  | .logout => true

/-- A reply that carries fields valid for the reply layout (R68). -/
def Reply.valid (r : Reply) : Bool := r.indication.valid

/-- Identity data within its values: battery 0 to 100 % (R124, 9.5.6). -/
def ResultOutcome.valid : ResultOutcome → Bool
  | .doneIdentify _ battery _ => battery ≤ 100
  | .pending => true
  | .done => true
  | .failed => true

/-- The check: what a well-formed command's fields satisfy beyond their types. -/
def Instr.wellFormed : Instr → Bool
  | .frameError frame => frame ≠ []
  | .matrixDone destination _ => destination.toNat < 224
  | .matrixReject destination _ _ => destination.toNat < 224
  | .bbPollReply _ reply => reply.valid
  | .bbProbeReply _ reply => reply.valid
  | .serviceMinute _ channel => channel.val ≠ 0
  | .rlScanReply _ readings => readings.length == 40
  | .rlResultReply _ position outcome => position < 40 && outcome.valid
  | .resetLinks _ scope => scope ≠ 1
  | _ => true

end Sys2Proof
end

