-- ==== Sys2Proof/Decode.lean ====
section
/-! DEFINITION. From bits to commands. No row of the opcode table gives bits, so decodeTableWord answers none. What the spec
does give is the bits and characters of its ports (R180, R192) and byte layouts (9.5): the request frame of the control port with
its form check (R185) and the frames the partners send on the links with their 16-bit check (R192). Their decoders stand here,
total, from the levels of a port's pins to the command they spell. -/

namespace Sys2Proof

/-- The command a word spells by the table's bits. The table gives no row bits: none (notes/assumptions 2). -/
def decodeTableWord (_nbits _w : Nat) : Option Instr := none

/-! ## Words and bytes (9.5.1: most significant byte first) -/

/-- The four bytes of a word. -/
def wordBytes (w : Word) : List Byte :=
  [w.extractLsb' 24 8, w.extractLsb' 16 8, w.extractLsb' 8 8, w.extractLsb' 0 8]

/-- The word of four bytes. -/
def bytesWord (b3 b2 b1 b0 : Byte) : Word := (b3 ++ b2 ++ b1 ++ b0 : BitVec (8 + 8 + 8 + 8))

/-- The whole words of a byte string, in order. -/
def bytesWords : List Byte → List Word
  | b3 :: b2 :: b1 :: b0 :: rest => bytesWord b3 b2 b1 b0 :: bytesWords rest
  | _ => []

/-- The two bytes of a 16-bit value, high byte first. -/
def halfBytes (h : BitVec 16) : List Byte := [h.extractLsb' 8 8, h.extractLsb' 0 8]

/-- The 16-bit value of two bytes, high byte first. -/
def bytesHalf (hi lo : Byte) : BitVec 16 := (hi ++ lo : BitVec (8 + 8))

/-! ## The control port (R180, R185, 9.5.1, 9.5.2) -/

/-- The body length in words that the catalogue gives a request code, none for a code that is not in it (9.5.2). -/
def catalogueLength (code : Nat) : Option Nat :=
  if code = 0x00 || code = 0x03 || code = 0x15 || code = 0x18 || code = 0x30 || code = 0x32 then some 0
  else if code = 0x91 || code = 0x92 || code = 0x94 || code = 0x95 then some 0
  else if code = 0x01 || code = 0x10 || code = 0x11 || code = 0x17 || code = 0x21 || code = 0x23 || code = 0x24 then some 1
  else if code = 0x31 || code = 0x41 || code = 0x50 || code = 0x53 then some 1
  else if code = 0x62 || code = 0x63 || code = 0x64 || code = 0x65 || code = 0x66 then some 1
  else if code = 0x70 || code = 0x71 || code = 0x72 || code = 0x73 || code = 0x74 || code = 0x76 then some 1
  else if code = 0x78 || code = 0x79 || code = 0x7B then some 1
  else if code = 0x82 || code = 0x83 || code = 0x84 || code = 0x85 || code = 0x88 || code = 0x8A || code = 0x8B then some 1
  else if code = 0x90 || code = 0x93 || code = 0x96 then some 1
  else if code = 0x12 || code = 0x22 || code = 0x40 || code = 0x51 || code = 0x54 || code = 0x75 then some 2
  else if code = 0x7A || code = 0x86 || code = 0x89 then some 2
  else if code = 0x02 || code = 0x16 || code = 0x20 then some 3
  else if code = 0x61 || code = 0x77 then some 4
  else if code = 0x13 || code = 0x14 || code = 0x60 then some 5
  else if code = 0x52 then some 8
  else if code = 0x81 then some 9
  else if code = 0x80 || code = 0x87 then some 10
  else none

/-- A frame error's reason (R185), in the order of its number (9.5.3). -/
inductive FrameReason where
  | ragged | short | code | length
deriving DecidableEq, Repr

/-- The first of the four checks of R185 that a frame of at least one byte fails, none for a well-formed request frame. -/
def frameReason (frame : List Byte) : Option FrameReason :=
  if frame.length % 4 ≠ 0 then some .ragged
  else
    match frame with
    | code :: len :: _ :: _ :: body =>
      if body.length / 4 < len.toNat then some .short
      else
        match catalogueLength code.toNat with
        | none => some .code
        | some n => if len.toNat ≠ n || body.length / 4 ≠ len.toNat then some .length else none
    | _ => some .ragged

/-- A request: its code, its tag and its body words. -/
structure Request where
  code : Byte
  tag : Tag
  body : List Word
deriving DecidableEq, Repr

/-- The request a command of the host is; none for an event of another partner. -/
def Instr.request : Instr → Option Request
  | .nop t => some ⟨0x00, t, []⟩
  | .selectHall t h => some ⟨0x01, t, [h]⟩
  | .openList t a b c => some ⟨0x02, t, [a, b, c]⟩
  | .nextRecord t => some ⟨0x03, t, []⟩
  | .defineLanguage t l => some ⟨0x10, t, [l]⟩
  | .retireLanguage t l => some ⟨0x11, t, [l]⟩
  | .setWidth t h w => some ⟨0x12, t, [h, w]⟩
  | .setChannel t h c l f i => some ⟨0x13, t, [h, c, l, f, i]⟩
  | .setBoothPlan t n h a b r => some ⟨0x14, t, [n, h, a, b, r]⟩
  | .clearDraft t => some ⟨0x15, t, []⟩
  | .readPlan t c h b => some ⟨0x16, t, [c, h, b]⟩
  | .commitPlan t v => some ⟨0x17, t, [v]⟩
  | .readApplyReport t => some ⟨0x18, t, []⟩
  | .setHall t h o f => some ⟨0x20, t, [h, o, f]⟩
  | .readHall t h => some ⟨0x21, t, [h]⟩
  | .setHallState t h s => some ⟨0x22, t, [h, s]⟩
  | .joinHalls t h => some ⟨0x23, t, [h]⟩
  | .splitHalls t h => some ⟨0x24, t, [h]⟩
  | .matrixRetry t => some ⟨0x30, t, []⟩
  | .readRoute t d => some ⟨0x31, t, [d]⟩
  | .readLink t => some ⟨0x32, t, []⟩
  | .readConsole t a c => some ⟨0x40, t, [a, c]⟩
  | .readSegment t s => some ⟨0x41, t, [s]⟩
  | .forceMicOff t a => some ⟨0x50, t, [a]⟩
  | .setRelay t b p => some ⟨0x51, t, [b, p]⟩
  | .setBoothFloor t b m w l n s f k => some ⟨0x52, t, [b, m, w, l, n, s, f, k]⟩
  | .readBooth t b => some ⟨0x53, t, [b]⟩
  | .readChannel t h c => some ⟨0x54, t, [h, c]⟩
  | .setRack t r o d n g => some ⟨0x60, t, [r, o, d, n, g]⟩
  | .setSlot t s e a w => some ⟨0x61, t, [s, e, a, w]⟩
  | .setScanProfile t p => some ⟨0x62, t, [p]⟩
  | .setChargePoll t i => some ⟨0x63, t, [i]⟩
  | .identifySlot t s => some ⟨0x64, t, [s]⟩
  | .readSlot t s => some ⟨0x65, t, [s]⟩
  | .readRack t r => some ⟨0x66, t, [r]⟩
  | .registerReceiver t s => some ⟨0x70, t, [s]⟩
  | .retireReceiver t s => some ⟨0x71, t, [s]⟩
  | .writeOff t s => some ⟨0x72, t, [s]⟩
  | .markFaulty t s => some ⟨0x73, t, [s]⟩
  | .clearFaulty t s => some ⟨0x74, t, [s]⟩
  | .setPool t h p => some ⟨0x75, t, [h, p]⟩
  | .readQueue t d => some ⟨0x76, t, [d]⟩
  | .issue t a h d l => some ⟨0x77, t, [a, h, d, l]⟩
  | .cancelTicket t k => some ⟨0x78, t, [k]⟩
  | .readTicket t k => some ⟨0x79, t, [k]⟩
  | .readReceiver t s v => some ⟨0x7A, t, [s, v]⟩
  | .readListening t h => some ⟨0x7B, t, [h]⟩
  | .openAccount t a k m n f c u p e g => some ⟨0x80, t, [a, k, m, n, f, c, u, p, e, g]⟩
  | .setAccount t a m n f c u p e g => some ⟨0x81, t, [a, m, n, f, c, u, p, e, g]⟩
  | .suspend t a => some ⟨0x82, t, [a]⟩
  | .resume t a => some ⟨0x83, t, [a]⟩
  | .close t a => some ⟨0x84, t, [a]⟩
  | .retireAccount t a => some ⟨0x85, t, [a]⟩
  | .readAccount t a c => some ⟨0x86, t, [a, c]⟩
  | .setTariff t f b r c h o g d l m => some ⟨0x87, t, [f, b, r, c, h, o, g, d, l, m]⟩
  | .readTariff t f => some ⟨0x88, t, [f]⟩
  | .postPayment t a m => some ⟨0x89, t, [a, m]⟩
  | .freeze t a => some ⟨0x8A, t, [a]⟩
  | .thaw t a => some ⟨0x8B, t, [a]⟩
  | .setClock t c => some ⟨0x90, t, [c]⟩
  | .readClock t => some ⟨0x91, t, []⟩
  | .readCauses t => some ⟨0x92, t, []⟩
  | .setEnables t e => some ⟨0x93, t, [e]⟩
  | .pulseAttn t => some ⟨0x94, t, []⟩
  | .readFaults t => some ⟨0x95, t, []⟩
  | .resetLinks t s => some ⟨0x96, t, [s]⟩
  | .resetAll t => some ⟨0x96, t, [1]⟩
  | _ => none

/-- The requests with an empty body (9.5.2). -/
def bareRequest (code : Nat) (t : Tag) : Option Instr :=
  match code with
  | 0x00 => some (.nop t)
  | 0x03 => some (.nextRecord t)
  | 0x15 => some (.clearDraft t)
  | 0x18 => some (.readApplyReport t)
  | 0x30 => some (.matrixRetry t)
  | 0x32 => some (.readLink t)
  | 0x91 => some (.readClock t)
  | 0x92 => some (.readCauses t)
  | 0x94 => some (.pulseAttn t)
  | 0x95 => some (.readFaults t)
  | _ => none

/-- The requests of one body word (9.5.2). RESET with scope ALL is a row of its own. -/
def wordRequest (code : Nat) (t : Tag) (x : Word) : Option Instr :=
  match code with
  | 0x01 => some (.selectHall t x)
  | 0x10 => some (.defineLanguage t x)
  | 0x11 => some (.retireLanguage t x)
  | 0x17 => some (.commitPlan t x)
  | 0x21 => some (.readHall t x)
  | 0x23 => some (.joinHalls t x)
  | 0x24 => some (.splitHalls t x)
  | 0x31 => some (.readRoute t x)
  | 0x41 => some (.readSegment t x)
  | 0x50 => some (.forceMicOff t x)
  | 0x53 => some (.readBooth t x)
  | 0x62 => some (.setScanProfile t x)
  | 0x63 => some (.setChargePoll t x)
  | 0x64 => some (.identifySlot t x)
  | 0x65 => some (.readSlot t x)
  | 0x66 => some (.readRack t x)
  | 0x70 => some (.registerReceiver t x)
  | 0x71 => some (.retireReceiver t x)
  | 0x72 => some (.writeOff t x)
  | 0x73 => some (.markFaulty t x)
  | 0x74 => some (.clearFaulty t x)
  | 0x76 => some (.readQueue t x)
  | 0x78 => some (.cancelTicket t x)
  | 0x79 => some (.readTicket t x)
  | 0x7B => some (.readListening t x)
  | 0x82 => some (.suspend t x)
  | 0x83 => some (.resume t x)
  | 0x84 => some (.close t x)
  | 0x85 => some (.retireAccount t x)
  | 0x88 => some (.readTariff t x)
  | 0x8A => some (.freeze t x)
  | 0x8B => some (.thaw t x)
  | 0x90 => some (.setClock t x)
  | 0x93 => some (.setEnables t x)
  | 0x96 => some (if x = 1 then .resetAll t else .resetLinks t x)
  | _ => none

/-- The requests of two or more body words (9.5.2). -/
def longRequest (code : Nat) (t : Tag) (body : List Word) : Option Instr :=
  match code, body with
  | 0x02, [a, b, c] => some (.openList t a b c)
  | 0x12, [h, w] => some (.setWidth t h w)
  | 0x13, [h, c, l, f, i] => some (.setChannel t h c l f i)
  | 0x14, [n, h, a, b, r] => some (.setBoothPlan t n h a b r)
  | 0x16, [c, h, b] => some (.readPlan t c h b)
  | 0x20, [h, o, f] => some (.setHall t h o f)
  | 0x22, [h, s] => some (.setHallState t h s)
  | 0x40, [a, c] => some (.readConsole t a c)
  | 0x51, [b, p] => some (.setRelay t b p)
  | 0x52, [b, m, w, l, n, s, f, k] => some (.setBoothFloor t b m w l n s f k)
  | 0x54, [h, c] => some (.readChannel t h c)
  | 0x60, [r, o, d, n, g] => some (.setRack t r o d n g)
  | 0x61, [s, e, a, w] => some (.setSlot t s e a w)
  | 0x75, [h, p] => some (.setPool t h p)
  | 0x77, [a, h, d, l] => some (.issue t a h d l)
  | 0x7A, [s, v] => some (.readReceiver t s v)
  | 0x80, [a, k, m, n, f, c, u, p, e, g] => some (.openAccount t a k m n f c u p e g)
  | 0x81, [a, m, n, f, c, u, p, e, g] => some (.setAccount t a m n f c u p e g)
  | 0x86, [a, c] => some (.readAccount t a c)
  | 0x87, [f, b, r, c, h, o, g, d, l, m] => some (.setTariff t f b r c h o g d l m)
  | 0x89, [a, m] => some (.postPayment t a m)
  | _, _ => none

/-- The command a request is: none for a code or a body length the catalogue does not give. -/
def Request.command (r : Request) : Option Instr :=
  match r.body with
  | [] => bareRequest r.code.toNat r.tag
  | [x] => wordRequest r.code.toNat r.tag x
  | body => longRequest r.code.toNat r.tag body

/-- The bytes of a request frame (9.5.1): code, body length in words, tag, body. -/
def Request.frame (r : Request) : List Byte :=
  r.code :: BitVec.ofNat 8 r.body.length :: (halfBytes r.tag ++ r.body.flatMap wordBytes)

/-- The command that the bytes clocked in during one exchange spell: none where no whole byte was clocked (R180), a frame
error where the frame fails a check (R185), and otherwise the request of the catalogue. -/
def decodeExchange (frame : List Byte) : Option Instr :=
  match frame with
  | [] => none
  | bytes =>
    match frameReason bytes with
    | some _ => some (.frameError bytes)
    | none =>
      match bytes with
      | code :: _ :: t1 :: t0 :: body => (Request.mk code (bytesHalf t1 t0) (bytesWords body)).command
      | _ => none

/-! ### The pins of the port (R180)

The bits of an exchange are CP_DIN at the rising edges of CP_SCK, and CP_DOUT changes at its falling edges. RESET_N is a level of the
port's pins: while it is low no exchange is taken. The command HARD_RESET is the whole of the reset that the level causes
(notes/assumptions 34). -/

/-- A byte's bits in the order the port carries them, most significant first. -/
def byteBits (b : Byte) : List Bool :=
  [b.getLsbD 7, b.getLsbD 6, b.getLsbD 5, b.getLsbD 4, b.getLsbD 3, b.getLsbD 2, b.getLsbD 1, b.getLsbD 0]

/-- The whole bytes of the bits clocked in: the bits of a byte left incomplete are discarded. -/
def bitsBytes : List Bool → List Byte
  | b7 :: b6 :: b5 :: b4 :: b3 :: b2 :: b1 :: b0 :: rest =>
    BitVec.ofBoolListBE [b7, b6, b5, b4, b3, b2, b1, b0] :: bitsBytes rest
  | _ => []

/-- The command that the bits clocked in during one exchange spell; none where no whole byte was clocked. -/
def decodeBits (bits : List Bool) : Option Instr := decodeExchange (bitsBytes bits)

/-- The levels at the port's inputs at one moment. -/
structure PortLevels where
  selN : Bool
  sck : Bool
  din : Bool
  resetN : Bool
deriving DecidableEq, Repr

/-- What the port has seen: the last levels of CP_SEL_N and CP_SCK, the bits sampled in the exchange in progress, if one is, and the
number, from 0, of the bit of the exchange that stands on CP_DOUT. -/
structure PortReader where
  selN : Bool
  sck : Bool
  bits : Option (List Bool)
  shown : Nat
deriving DecidableEq, Repr

/-- The bits of the exchange in progress at the next levels: an exchange begins when CP_SEL_N goes low, a bit is sampled at a rising
edge of CP_SCK, and RESET_N low ends what was in progress. -/
def PortReader.sampled (r : PortReader) (p : PortLevels) : Option (List Bool) :=
  if !p.resetN then none
  else if r.selN && !p.selN then some []
  else if !r.sck && p.sck && !p.selN then r.bits.map (· ++ [p.din])
  else r.bits

/-- The number of the bit on CP_DOUT at the next levels: it changes on the falling edge of CP_SCK, to the bit after those sampled. The
first bit stands there from the beginning of the exchange (DESIGN CHOICE, log 47: R180 gives no level at which CP_SCK idles). -/
def PortReader.changed (r : PortReader) (p : PortLevels) : Nat :=
  if r.selN && !p.selN then 0
  else if r.sck && !p.sck && !p.selN then (r.bits.getD []).length
  else r.shown

/-- The next levels: the exchange in progress ends when CP_SEL_N goes high, and its bits spell a command. -/
def PortReader.next (r : PortReader) (p : PortLevels) : PortReader × Option Instr :=
  ({ selN := p.selN, sck := p.sck, bits := if p.selN then none else r.sampled p, shown := r.changed p },
    if p.selN then (r.sampled p).bind decodeBits else none)

/-- The commands of a run of levels. -/
def portCommands (r : PortReader) : List PortLevels → List Instr
  | [] => []
  | p :: rest => (r.next p).2.toList ++ portCommands (r.next p).1 rest

/-! ## The characters of the links (R192)

Levels stand one a bit time. The start bit is low, the stop bit and the idle line are high (notes/assumptions 35). -/

/-- The levels of a character: the start bit, the data bits with the least significant first, the stop bit. -/
def charBits (b : Byte) : List Bool :=
  [false, b.getLsbD 0, b.getLsbD 1, b.getLsbD 2, b.getLsbD 3, b.getLsbD 4, b.getLsbD 5, b.getLsbD 6, b.getLsbD 7, true]

/-- A frame as one unbroken run of characters. -/
def lineBits (frame : List Byte) : List Bool := frame.flatMap charBits

/-- The characters received, each with the idle bit times before it; a character without its stop bit ends the reading. -/
def readChars (idle : Nat) : List Bool → List (Nat × Byte)
  | true :: rest => readChars (idle + 1) rest
  | false :: b0 :: b1 :: b2 :: b3 :: b4 :: b5 :: b6 :: b7 :: true :: rest =>
    (idle, BitVec.ofBoolListBE [b7, b6, b5, b4, b3, b2, b1, b0]) :: readChars 0 rest
  | _ => []

/-- The bit times of two characters. -/
def cutPause : Nat := 20

/-- The first run of characters: a pause of more than two character times cuts it off. -/
def unbrokenRun : List (Nat × Byte) → List Byte
  | [] => []
  | c :: rest => c.2 :: (rest.takeWhile fun x => x.1 ≤ cutPause).map Prod.snd

/-- The frame at the head of a run, its length taken from its type byte and its length fields; none for an unknown type, and for a
frame that is cut off. Characters that follow a complete frame in the same run are dropped: R192 gives them no meaning (DESIGN CHOICE,
log 49). -/
def takeFrame (length : List Byte → Option Nat) (run : List Byte) : Option (List Byte) :=
  (length run).bind fun n => if n ≤ run.length then some (run.take n) else none

/-- The length of a reply frame of the booth bus with its check, from its indication and a cue's text length (9.5.4). -/
def replyLength : List Byte → Option Nat
  | _ :: flags :: args =>
    match (flags.extractLsb' 0 4).toNat with
    | 0 => some 4
    | 1 => some 4
    | 2 => some 4
    | 3 => some 4
    | 4 => some 4
    | 5 => some 5
    | 6 => args[1]?.map fun n => 6 + n.toNat
    | 7 => some 6
    | 8 => some 4
    | _ => none
  | _ => none

/-- The length of a frame of the crosspoint unit with its check (9.5.5). -/
def matrixLength : List Byte → Option Nat
  | k :: _ =>
    if k = 0x11 then some 5 else if k = 0x12 then some 6 else if k = 0x13 then some 3 else if k = 0x14 then some 3 else none
  | [] => none

/-- The length of a rack's reply with its check: a RESULT reply of DONE carries identity data where the job asked after is an IDENTIFY
(9.5.6). -/
def rackLength (identify : Bool) : List Byte → Option Nat
  | head :: rest =>
    match (head.extractLsb' 4 4).toNat with
    | 9 => some 8
    | 10 => some 4
    | 11 => rest[1]?.map fun o => if identify && o = 1 then 11 else 5
    | _ => none
  | [] => none

/-! ## The links (R192, 9.5.4 to 9.5.6) -/

/-- One shift of the cyclic check with polynomial x^16 + x^12 + x^5 + 1. -/
def crcShift (c : BitVec 16) : BitVec 16 := if c.msb then (c <<< 1) ^^^ 0x1021 else c <<< 1

/-- A byte taken into the check, most significant bit first. -/
def crcByte (c : BitVec 16) (b : Byte) : BitVec 16 :=
  let c := c ^^^ (b.setWidth 16 <<< 8)
  crcShift (crcShift (crcShift (crcShift (crcShift (crcShift (crcShift (crcShift c)))))))

/-- The check of a frame's bytes: initial value 65535, not reflected, nothing added at the end. -/
def crc16 (bytes : List Byte) : BitVec 16 := bytes.foldl crcByte 0xFFFF

/-- A frame with its check, high byte first. -/
def sealFrame (bytes : List Byte) : List Byte := bytes ++ halfBytes (crc16 bytes)

/-- The bytes before the check of a frame that passes it. -/
def openFrame (frame : List Byte) : Option (List Byte) :=
  let bytes := frame.take (frame.length - 2)
  if 2 ≤ frame.length && frame = sealFrame bytes then some bytes else none

/-- The indication of a reply with its argument bytes (9.5.4). An account is sent high byte first (log 23). Of the argument byte of a
RELAY_PICK 9.5.4 assigns bit 7 and, without it, bits 5 to 0: bits 6 to 0 beside FLOOR are ignored, and bit 6 without bit 7 makes the reply a
malformed one (DESIGN CHOICE, log 46). -/
def decodeIndication (code : Nat) (args : List Byte) : Option Indication :=
  match code, args with
  | 0, [] => some .quiet
  | 1, [] => some .micRequest
  | 2, [] => some .micRelease
  | 3, [] => some .dirA
  | 4, [] => some .dirB
  | 5, [x] => if x.msb then some (.relayPick none) else if x.toNat < 64 then some (.relayPick (some (x.setWidth 6))) else none
  | 6, target :: len :: text =>
    if text.length = len.toNat && len.toNat ≤ 15 && text.all cueCharacter then
      if h : target.toNat < 32 then some (.cueOut (.booth ⟨target.toNat, h⟩) text)
      else if target.toNat = 63 then some (.cueOut .relayTakers text) else none
    else none
  | 7, [hi, lo] => if hi.toNat < 4 then some (.login ((bytesHalf hi lo).setWidth 10)) else none
  | 8, [] => some .logout
  | _, _ => none

/-- The acknowledgement of a reply's second byte, bits 6 and 5 (9.5.4). -/
def decodeAck (b : Byte) : Ack :=
  match (b.extractLsb' 5 2).toNat with
  | 0 => .none
  | 1 => .taken
  | 2 => .busy
  | _ => .refused

/-- A reply frame of the booth bus: none is a malformed reply (R69, R192). -/
def decodeReply (frame : List Byte) : Option Reply :=
  match openFrame frame with
  | some (address :: flags :: args) =>
    if h : address.toNat < 96 then
      (decodeIndication (flags.extractLsb' 0 4).toNat args).map fun i =>
        { address := ⟨address.toNat, h⟩, ack := decodeAck flags, ackBit := flags.getLsbD 7,
          indicationBit := flags.getLsbD 4, indication := i }
    else none
  | _ => none

/-- The command a frame of the matrix link spells; none for a frame that is not taken (9.5.5, R192). -/
def decodeMatrix (frame : List Byte) : Option Instr :=
  match openFrame frame with
  | some [k] => if k = 0x13 then some .alert else if k = 0x14 then some .present else none
  | some [k, d, t] =>
    if k = 0x11 && d.toNat < 224 && t.toNat < 4 then some (.matrixDone d (t.setWidth 2)) else none
  | some [k, d, t, r] =>
    if k = 0x12 && d.toNat < 224 && t.toNat < 4 then
      if r = 1 then some (.matrixReject d (t.setWidth 2) .busy)
      else if r = 2 then some (.matrixReject d (t.setWidth 2) .noPort)
      else if r = 3 then some (.matrixReject d (t.setWidth 2) .badSource) else none
    else none
  | _ => none

/-- The 40 presence readings of a scan reply's five bytes: position p in byte p ÷ 8, bit p − 8 × (p ÷ 8) (9.5.6). -/
def decodeReadings (bytes : List Byte) : List Bool :=
  (List.range 40).map fun p => (bytes.getD (p / 8) 0).getLsbD (p % 8)

/-- The command a rack's reply spells; none for a frame that counts as no reply (9.5.6, R192). The serial of an identity is taken most
significant byte first: 9.5.6 and R124 give its four bytes no order (DESIGN CHOICE, log 23). -/
def decodeRack (frame : List Byte) : Option Instr :=
  match openFrame frame with
  | some (head :: rest) =>
    let rack : Fin 16 := (head.extractLsb' 0 4).toFin
    match (head.extractLsb' 4 4).toNat, rest with
    | 9, [_, _, _, _, _] => some (.rlScanReply rack (decodeReadings rest))
    | 10, [x] => if x = 0 then some (.rlStartReply rack true) else if x = 1 then some (.rlStartReply rack false) else none
    | 11, [p, o] =>
      if 40 ≤ p.toNat then none
      else if o = 0 then some (.rlResultReply rack p.toNat .pending)
      else if o = 1 then some (.rlResultReply rack p.toNat .done)
      else if o = 2 then some (.rlResultReply rack p.toNat .failed) else none
    | 11, [p, o, s3, s2, s1, s0, battery, health] =>
      if p.toNat < 40 && o = 1 && battery.toNat ≤ 100 then
        if health = 0 then some (.rlResultReply rack p.toNat (.doneIdentify (bytesWord s3 s2 s1 s0) battery.toNat .ok))
        else if health = 1 then some (.rlResultReply rack p.toNat (.doneIdentify (bytesWord s3 s2 s1 s0) battery.toNat .fault))
        else none
      else none
    | _, _ => none
  | _ => none

/-! ## What a line's levels come to (R69, R114, R192) -/

/-- The command that the levels of a segment after a poll or a probe come to: none where no frame begins, a malformed reply where one is
cut off, fails its check, has an unknown type or holds a field outside its values (R69, R192). Where already the first character lacks its
stop bit no frame has begun, so that the window ends without a reply, a miss: R69 does not say whether that is a malformed reply (DESIGN
CHOICE, log 50). -/
def boothCommand (segment : Fin 2) (probe : Bool) (bits : List Bool) : Option Instr :=
  match unbrokenRun (readChars 0 bits) with
  | [] => none
  | run =>
    match (takeFrame replyLength run).bind decodeReply with
    | none => some (.bbMalformedReply segment)
    | some reply => some (if probe then .bbProbeReply segment reply else .bbPollReply segment reply)

/-- The command that the levels of ML_RX come to; a frame that is not taken is ignored (R192). -/
def matrixCommand (bits : List Bool) : Option Instr :=
  (takeFrame matrixLength (unbrokenRun (readChars 0 bits))).bind decodeMatrix

/-- The command that the levels of RL after a frame of the part come to; a frame that is not taken counts as no reply (R114, R192). -/
def rackCommand (identify : Bool) (bits : List Bool) : Option Instr :=
  (takeFrame (rackLength identify) (unbrokenRun (readChars 0 bits))).bind decodeRack

end Sys2Proof
end

