-- ==== Sys2Proof/Config.lean ====
section
/-! DEFINITION. The fixed sizes of the installation (spec 00, section 1.5.5), the limits of the number formats, and the
FREE VALUES: constants with no body for results the spec does not state (notes/assumptions 9, 10, 11). -/

namespace Sys2Proof.Config

def halls : Nat := 6
def channels : Nat := 32
def languages : Nat := 48
def booths : Nat := 32
def consoles : Nat := 96
def buses : Nat := 192
def destinations : Nat := 224
def racks : Nat := 16
def slots : Nat := 640
def slotsPerRack : Nat := 40
def receivers : Nat := 4096
def desks : Nat := 4
def tickets : Nat := 8
def accounts : Nat := 512
def tariffs : Nat := 8

/-- The largest count of seconds: of the congress clock (R193), the duty timers (R86) and the second counters (R159). -/
def top : Nat := 4294967295

/-- The limit of a balance on either side, in cents (1.5.4, R169). -/
def balanceLimit : Int := 2000000000

/-- FREE VALUE (log 9): the word that carries a money figure computed by READ_ACCOUNT (R166) which lies outside the 32-bit
two's complement coding of 9.5.1. Nothing is known of it. -/
opaque wideMoney : Int → Word

/-- FREE VALUE (log 10): the duty timer of a console after a tick taken while it stands at 4,294,967,295 (R86 gives the
range, R106 raises the timer by one, neither says what follows the top). Applied to the console address and the clock. -/
opaque dutyTimerPastTop : Nat → Nat → Word

/-- FREE VALUE (log 11): the number (9.5.5) of the source desired by a destination whose row of R44 or R45 names the
channel of a language that the hall does not carry, which those rules say never happens. Applied to the destination. -/
opaque uncarriedSource : Nat → Fin 232

end Sys2Proof.Config
end

