-- ==== Sys2Proof/Machine/Table.lean ====
section
/-! DEFINITION. A table of records: the sparse form in which State holds the manual's records. A list of (index, record)
in strictly rising index order; an unlisted index reads as the default its reader names, the record's reset content. The
order is part of the type, so that no table out of order can be built (notes/assumptions 32). -/

namespace Sys2Proof.Machine

/-- Every index of the list is above `k`, and the list rises: the canonical order, checked from left to right. -/
def Table.risesFrom {α : Type} : Option Nat → List (Nat × α) → Bool
  | _, [] => true
  | none, (k, _) :: rest => Table.risesFrom (some k) rest
  | some b, (k, _) :: rest => decide (b < k) && Table.risesFrom (some k) rest

/-- A table of records of type α, indexed by Nat. -/
structure Table (α : Type) where
  cells : List (Nat × α)
  rising : Table.risesFrom none cells = true
deriving DecidableEq, Repr

namespace Table

variable {α : Type}

/-- Insert or replace in a rising list. -/
def insertCells (k : Nat) (v : α) : List (Nat × α) → List (Nat × α)
  | [] => [(k, v)]
  | (j, w) :: rest => if k < j then (k, v) :: (j, w) :: rest else if k = j then (k, v) :: rest else (j, w) :: insertCells k v rest

/-- Remove an index from a rising list. -/
def eraseCells (k : Nat) : List (Nat × α) → List (Nat × α)
  | [] => []
  | (j, w) :: rest => if k = j then rest else (j, w) :: eraseCells k rest

/-- The record listed at an index. -/
def lookupCells (k : Nat) : List (Nat × α) → Option α
  | [] => none
  | (j, w) :: rest => if k = j then some w else lookupCells k rest

theorem risesFrom_weaken {b : Option Nat} {l : List (Nat × α)} (h : risesFrom b l = true) : risesFrom none l = true := by
  cases l with
  | nil => rfl
  | cons p rest =>
    cases b with
    | none => exact h
    | some b => simp only [risesFrom, Bool.and_eq_true] at h ⊢; exact h.2

theorem risesFrom_lower {b k : Nat} {l : List (Nat × α)} (hbk : b < k) (h : risesFrom (some k) l = true) :
    risesFrom (some b) l = true := by
  cases l with
  | nil => rfl
  | cons p rest =>
    simp only [risesFrom, Bool.and_eq_true, decide_eq_true_eq] at h ⊢
    exact ⟨Nat.lt_trans hbk h.1, h.2⟩

theorem insertCells_risesFrom (k : Nat) (v : α) (l : List (Nat × α)) :
    ∀ b : Option Nat, (∀ x, b = some x → x < k) → risesFrom b l = true → risesFrom b (insertCells k v l) = true := by
  induction l with
  | nil =>
    intro b hb _
    cases b with
    | none => rfl
    | some x => simp [insertCells, risesFrom, hb x rfl]
  | cons p rest ih =>
    obtain ⟨j, w⟩ := p
    intro b hb h
    have hj : risesFrom (some j) rest = true := by
      cases b with
      | none => exact h
      | some x => simp only [risesFrom, Bool.and_eq_true] at h; exact h.2
    unfold insertCells
    split
    · cases b with
      | none => simp_all [risesFrom]
      | some x => simp_all [risesFrom]
    · split
      · subst_vars
        cases b with
        | none => exact hj
        | some x => simp [risesFrom, hb x rfl, hj]
      · have hjk : j < k := by omega
        have := ih (some j) (by intro x hx; cases hx; exact hjk) hj
        cases b with
        | none => exact this
        | some x => simp only [risesFrom, Bool.and_eq_true] at h ⊢; exact ⟨h.1, this⟩

theorem eraseCells_risesFrom (k : Nat) (l : List (Nat × α)) :
    ∀ b : Option Nat, risesFrom b l = true → risesFrom b (eraseCells k l) = true := by
  induction l with
  | nil => intro b h; exact h
  | cons p rest ih =>
    obtain ⟨j, w⟩ := p
    intro b h
    unfold eraseCells
    split
    · cases b with
      | none => exact risesFrom_weaken h
      | some x =>
        simp only [risesFrom, Bool.and_eq_true, decide_eq_true_eq] at h
        exact risesFrom_lower h.1 h.2
    · cases b with
      | none => exact ih (some j) h
      | some x =>
        simp only [risesFrom, Bool.and_eq_true] at h ⊢
        exact ⟨h.1, ih (some j) h.2⟩

/-- The table that lists nothing. -/
def empty : Table α := ⟨[], rfl⟩

/-- The record listed at `k`, if one is. -/
def lookup (t : Table α) (k : Nat) : Option α := lookupCells k t.cells

/-- The record at `k`, `d` where none is listed. -/
def get (t : Table α) (d : α) (k : Nat) : α := (t.lookup k).getD d

/-- List `v` at `k`. -/
def insert (t : Table α) (k : Nat) (v : α) : Table α :=
  ⟨insertCells k v t.cells, insertCells_risesFrom k v t.cells none (by simp) t.rising⟩

/-- List nothing at `k`. -/
def erase (t : Table α) (k : Nat) : Table α := ⟨eraseCells k t.cells, eraseCells_risesFrom k t.cells none t.rising⟩

/-- The record at `k` becomes `v` where unlisted indexes read `d`: a record equal to the default is not listed. -/
def put [DecidableEq α] (t : Table α) (d : α) (k : Nat) (v : α) : Table α := if v = d then t.erase k else t.insert k v

/-- The listed indexes, ascending. -/
def keys (t : Table α) : List Nat := t.cells.map Prod.fst

/-- The lowest listed index whose record satisfies `p`. -/
def findKey (t : Table α) (p : α → Bool) : Option Nat := (t.cells.find? fun c => p c.2).map Prod.fst

/-- The number of listed records that satisfy `p`. -/
def count (t : Table α) (p : α → Bool) : Nat := t.cells.countP fun c => p c.2

/-- The listed indexes whose record satisfies `p`, ascending. -/
def keysWhere (t : Table α) (p : α → Bool) : List Nat := (t.cells.filter fun c => p c.2).map Prod.fst

/-- Every listed record changed by `f`, which sees the index; one that becomes the default `d` is not listed any more. -/
def mapCells [DecidableEq α] (d : α) (f : Nat → α → α) : List (Nat × α) → List (Nat × α)
  | [] => []
  | (k, v) :: rest => if f k v = d then mapCells d f rest else (k, f k v) :: mapCells d f rest

theorem mapCells_risesFrom [DecidableEq α] (d : α) (f : Nat → α → α) (l : List (Nat × α)) :
    ∀ b : Option Nat, risesFrom b l = true → risesFrom b (mapCells d f l) = true := by
  induction l with
  | nil => intro b h; exact h
  | cons p rest ih =>
    obtain ⟨j, w⟩ := p
    intro b h
    unfold mapCells
    split
    · cases b with
      | none => exact ih none (risesFrom_weaken h)
      | some x =>
        simp only [risesFrom, Bool.and_eq_true, decide_eq_true_eq] at h
        exact ih (some x) (risesFrom_lower h.1 h.2)
    · cases b with
      | none => exact ih (some j) h
      | some x =>
        simp only [risesFrom, Bool.and_eq_true] at h ⊢
        exact ⟨h.1, ih (some j) h.2⟩

/-- Every listed record changed by `f`, where unlisted indexes read `d`. -/
def map [DecidableEq α] (t : Table α) (d : α) (f : Nat → α → α) : Table α :=
  ⟨mapCells d f t.cells, mapCells_risesFrom d f t.cells none t.rising⟩

end Table

end Sys2Proof.Machine
end

