-- ==== Sys2Proof/Machine/State.lean ====
section
/-! DEFINITION. The state of the ZJ-640: every record the spec gives each of its nine blocks, as plain data, the queue of
commands waiting, the reasons a step can stop, and the state right after a hard reset. Field by field the rules are named
in INVENTORY.md. Tables are sparse (Machine/Table.lean): an index that is not listed reads as the record's reset content. -/

namespace Sys2Proof.Machine

/-! ## Results and responses (R181, R187, 9.5.3) -/

/-- Result and reason codes in the order of their numbers 0 to 44 (9.5.3). -/
inductive Result where
  | ok | accepted | finished | resetSeen | badFrame | badValue | badState | busy | duplicate | full | inUse | badLanguage
  | staleDraft | badChannel | badFallback | badBooth | feeders | joined | notJoined | notLive | notCarried | hallNotLive
  | accountState | unitCap | credit | noLanguage | ticketsFull | noTicket | noReceiver | docked | notPresent | unsettled
  | noList | selfRelay | relayDepth | locked | loggedIn | notLogged | noChannel | boothBusy | channelBusy | noUnit | tooLate
  | openHire | fallbackLoop
deriving DecidableEq, Repr

/-- A response (R181): result, echo of the request code and tag, body words. -/
structure Response where
  result : Result
  code : Byte
  tag : Tag
  body : List Word
deriving DecidableEq, Repr

/-- The tables the list cursor walks, in the order of R189. -/
inductive ListTable where
  | languages | booths | consoles | routes | slots | receivers | tickets | accounts
deriving DecidableEq, Repr

/-- The open list cursor (R189). -/
structure Cursor where
  table : ListTable
  filter : Word
  position : Nat
deriving DecidableEq, Repr

/-- Reset recovery in progress (R184): the echo of the response it ends with, whether the TREF watch starts at its end
(R194), and the moment it ends. -/
structure Recovery where
  code : Byte
  tag : Tag
  startsWatch : Bool
  ends : Nat
deriving DecidableEq, Repr

/-- The Control Port Interface. -/
structure Cpi where
  held : Response
  window : Nat
  cursor : Option Cursor
  recovery : Option Recovery
  /-- The status byte the last exchange shifted out (R182). -/
  status : Byte
  /-- The response the last exchange delivered, none where it was answered NOT_READY (R181, R183). -/
  delivered : Option Response
deriving DecidableEq, Repr

/-! ## Plan Store (R1 to R42) -/

/-- A channel entry's fallback (R4). -/
inductive Fallback where
  | floor | silence | language (slot : Nat)
deriving DecidableEq, Repr

/-- A channel entry's interlock (R4). -/
inductive Interlock where
  | firstHolds | lastTakes
deriving DecidableEq, Repr

/-- A relay pick, and a booth part's relay default (R5, R87). -/
inductive Pick where
  | floor | language (slot : Nat)
deriving DecidableEq, Repr

/-- A channel entry of a hall part (R4). -/
structure Entry where
  language : Option Nat
  fallback : Fallback
  interlock : Interlock
deriving DecidableEq, Repr

/-- A hall part of a plan (R4). -/
structure HallPlan where
  width : Nat
  entries : Table Entry
deriving DecidableEq, Repr

/-- A booth part of a plan (R5). -/
structure BoothPlan where
  home : Nat
  a : Option Nat
  b : Option Nat
  relay : Pick
deriving DecidableEq, Repr

/-- A plan: six hall parts and 32 booth parts (R4). -/
structure Plan where
  halls : Table HallPlan
  booths : Table BoothPlan
deriving DecidableEq, Repr

/-- The kind of an apply operation (R25). -/
inductive ApplyKind where
  | commit | join | split
deriving DecidableEq, Repr

/-- How an operation ended (R26). -/
inductive Ending where
  | complete | aborted
deriving DecidableEq, Repr

/-- The operation in flight with the counts its report will carry (R25, R26, R28). -/
structure Operation where
  kind : ApplyKind
  version : BitVec 16
  hallsChanged : Nat
  stuck : Nat
  relayResets : Nat
  planCuts : Nat
deriving DecidableEq, Repr

/-- The commit report (R26). -/
structure Report where
  kind : Option ApplyKind
  ending : Ending
  version : BitVec 16
  hallsChanged : Nat
  stuck : Nat
  relayResets : Nat
  planCuts : Nat
deriving DecidableEq, Repr

/-- Hall states (R29). -/
inductive HallState where
  | live | quiet | floorAll | tone
deriving DecidableEq, Repr

/-- A hall record with its beacon generator (R29, R40). The join field is held in the senior's record. -/
structure Hall where
  state : HallState
  joined : Bool
  organiser : Option Nat
  tariff : Nat
  beaconOn : Bool
  mapVersion : Byte
  /-- The announced map: an entry that is not listed is empty. -/
  announced : Table Text
  /-- The last beacon frame begun on the hall's output. -/
  sent : List Byte
  /-- The moment the next frame begins while the generator is on. -/
  nextFrame : Nat
deriving DecidableEq, Repr

/-- The Plan Store. A language slot is DEFINED exactly when the table lists its label (R1). The apply register is APPLYING
exactly when an operation is present (R25). -/
structure Pls where
  languages : Table Text
  draft : Plan
  active : Plan
  draftVersion : BitVec 16
  planVersion : BitVec 16
  operation : Option Operation
  markCount : Nat
  report : Report
  halls : Table Hall
deriving DecidableEq, Repr

/-! ## Route Engine (R43 to R62) -/

/-- The 232 sources (R43). -/
inductive Source where
  | floor (hall : Nat) | tone | silence | booth (booth : Nat) | bus (destination : Nat)
deriving DecidableEq, Repr

/-- The status of a destination (R43). -/
inductive RouteStatus where
  | settled | pending | stuck
deriving DecidableEq, Repr

/-- An entry of the routing map (R43). A confirmed source of none is UNKNOWN. -/
structure Route where
  desired : Source
  confirmed : Option Source
  status : RouteStatus
  mark : Bool
  attempts : Nat
deriving DecidableEq, Repr

/-- The outstanding command of the matrix link (R49, R50) and the moment its confirmation times out. -/
structure SetCommand where
  destination : Nat
  source : Source
  tag : BitVec 2
  sends : Nat
  deadline : Nat
deriving DecidableEq, Repr

/-- The Route Engine. -/
structure Rte where
  routes : Table Route
  urgent : List Nat
  bulk : List Nat
  up : Bool
  outstanding : Option SetCommand
  timeouts : Nat
  nextTag : BitVec 2
  /-- The moment the next PROBE falls due while the link is DOWN (R53). -/
  probeDue : Nat
  /-- The last frame sent on ML_TX (9.5.5). -/
  sent : List Byte
deriving DecidableEq, Repr

/-! ## Booth Bus Controller (R63 to R85) -/

/-- Console link states (R64). -/
inductive LinkState where
  | absent | online | suspect | offline
deriving DecidableEq, Repr

/-- The answer to an indication: the stored answer and the poll answer (R64). -/
inductive Answer where
  | none | taken | busy | refused (reason : Result)
deriving DecidableEq, Repr

/-- Why a console went OFF, in the order of the reason table of R101. -/
inductive OffReason where
  | released | forced | override | handover | channelTaken | channelBusy | noChannel | logout | offline | planCut
  | hallTest | join | split
deriving DecidableEq, Repr

/-- Directives with what they carry (R76). -/
inductive Directive where
  | micOn
  | micOff (reason : OffReason)
  | lock
  | unlock
  | relaySet (pick : Pick)
  | handoverAsked
  | dutyWarn (timer : Nat)
  | ident (console hall : Nat)
  | cueIn (booth : Nat) (text : Text)
deriving DecidableEq, Repr

/-- A console link record (R64). -/
structure Link where
  state : LinkState
  misses : Nat
  identPending : Bool
  directiveBit : Bool
  acceptedBit : Bool
  stored : Answer
  answer : Answer
  directives : List Directive
  offered : Bool
  errors : Nat
deriving DecidableEq, Repr

/-- A deadline of the part's timebase: due at a moment, or fallen due at one (R65, R112). -/
inductive Due where
  | at (moment : Nat) | fallen (moment : Nat)
deriving DecidableEq, Repr

/-- A transaction on a segment (R63): a poll, which may carry a directive, or a probe. -/
structure BusTransaction where
  console : Nat
  probe : Bool
  carried : Bool
  started : Nat
deriving DecidableEq, Repr

/-- A segment record (R65), the transaction in progress, and what the rules of the poll round need (R66, R67, R83). -/
structure Segment where
  position : Nat
  silentRounds : Nat
  silent : Bool
  /-- The moment each address falls due for its probe; an address that is not listed has been due since reset. -/
  probes : Table Due
  transaction : Option BusTransaction
  /-- A poll was made in the round in progress. -/
  polled : Bool
  /-- A poll of the round in progress drew a reply frame. -/
  answered : Bool
  /-- The round position wrapped with the poll in progress: the round ends with it. -/
  ending : Bool
  /-- The last transaction was a poll. -/
  afterPoll : Bool
  /-- The last frame sent on the segment (9.5.4). -/
  sent : List Byte
deriving DecidableEq, Repr

/-- The Booth Bus Controller. -/
structure Bbc where
  links : Table Link
  segment0 : Segment
  segment1 : Segment
deriving DecidableEq, Repr

/-! ## Floor Arbiter (R86 to R111) -/

/-- A direction, and a switch position (R86). -/
inductive Direction where
  | a | b
deriving DecidableEq, Repr

/-- Mic states (R86). -/
inductive MicState where
  | off | waitBooth | waitChannel | live
deriving DecidableEq, Repr

/-- A floor record (R86), with the reason the console last went OFF (R101, R110). -/
structure FloorRecord where
  mic : MicState
  switch : Direction
  login : Option Nat
  dutyTimer : Nat
  dutyWarned : Bool
  dutyOver : Bool
  lastOff : Option OffReason
deriving DecidableEq, Repr

/-- Interlock modes (R87). -/
inductive Mode where
  | exclusive | handover | override
deriving DecidableEq, Repr

/-- A booth floor record (R87). -/
structure BoothFloor where
  mode : Mode
  window : Nat
  dutyLimit : Nat
  loginRequired : Bool
  snoop : Bool
  forced : Direction
  relayLock : Bool
  pick : Pick
  holder : Option Nat
  requests : List Nat
  deadline : Option Nat
  direction : Direction
deriving DecidableEq, Repr

/-- A channel token record (R88). -/
structure ChannelToken where
  holder : Option Nat
  waits : List Nat
  service : Nat
deriving DecidableEq, Repr

/-- The Floor Arbiter. Channel token records are listed at hall × 32 + channel. -/
structure Fla where
  consoles : Table FloorRecord
  booths : Table BoothFloor
  tokens : Table ChannelToken
deriving DecidableEq, Repr

/-! ## Rack Scanner (R112 to R132) -/

/-- Kinds of contact job (R122). -/
inductive JobKind where
  | identify | preset | latchOpen | latchClose
deriving DecidableEq, Repr

/-- Origins of contact jobs (R122). -/
inductive JobOrigin where
  | arrival | poll | host | rpm | reset
deriving DecidableEq, Repr

/-- The arguments of a PRESET (R122). -/
structure PresetArgs where
  hall : Nat
  language : Nat
  label : Text
deriving DecidableEq, Repr

/-- A contact job (R122) with the number of its attempts that have failed (R123). -/
structure Job where
  slot : Nat
  kind : JobKind
  origin : JobOrigin
  preset : Option PresetArgs
  failed : Nat
deriving DecidableEq, Repr

/-- The transaction of a rack (R112): the attempt of the job at the head of its list, the moment it began, and when its next
RESULT falls due (none while the START or a RESULT waits for its reply). -/
structure Attempt where
  number : Nat
  began : Nat
  resultDue : Option Due
deriving DecidableEq, Repr

/-- A rack record (R112), with the start of its last scan (R114) and the moment its START became ready (R114). -/
structure Rack where
  desk : Option Nat
  normal : Nat
  night : Nat
  silent : Bool
  missed : Nat
  nextScan : Due
  lastScan : Option Nat
  jobs : List Job
  attempt : Option Attempt
  startReady : Option Nat
deriving DecidableEq, Repr

/-- Slot states (R115). -/
inductive SlotState where
  | disabled | empty | settling | ident | occupied | foreign | issuing | fault
deriving DecidableEq, Repr

/-- Settled presence (R115). -/
inductive Presence where
  | present | absent | unsettled
deriving DecidableEq, Repr

/-- Latch positions (R115). -/
inductive Latch where
  | closed | opened | unknown
deriving DecidableEq, Repr

/-- A slot record (R115). The debounce count is 1 exactly when there is a candidate: `some true` is present. -/
structure Slot where
  state : SlotState
  occupant : Option Nat
  presence : Presence
  candidate : Option Bool
  latch : Latch
  attention : Bool
  wake : Bool
deriving DecidableEq, Repr

/-- The exchange in progress on the rack line (R114); a RESULT keeps the moment it fell due (R123). -/
inductive Exchange where
  | scan (rack : Nat) (started : Nat)
  | start (rack : Nat) (started : Nat)
  | result (rack : Nat) (started : Nat) (fellDue : Nat)
deriving DecidableEq, Repr

/-- The Rack Scanner. -/
structure Rks where
  racks : Table Rack
  slots : Table Slot
  night : Bool
  pollInterval : Nat
  pollCounter : Nat
  line : Option Exchange
  /-- The last frame sent on RL (9.5.6). -/
  sent : List Byte
deriving DecidableEq, Repr

/-! ## Receiver Pool Manager (R133 to R158) -/

/-- Receiver states (R133). -/
inductive ReceiverState where
  | free | stock | charging | ready | issuing | issued | overdue | lost | loose | faulty
deriving DecidableEq, Repr

/-- The open-hire part (R133). -/
structure Hire where
  account : Nat
  hall : Nat
  language : Nat
  tariff : Nat
  deposit : Nat
  issueTime : Nat
  dueTime : Nat
  lossCharge : Option Nat
deriving DecidableEq, Repr

/-- A receiver record (R133). -/
structure Receiver where
  serial : Option Word
  state : ReceiverState
  slot : Option Nat
  battery : Option Nat
  readyTime : Nat
  ticket : Option Nat
  hire : Option Hire
deriving DecidableEq, Repr

/-- Ticket states (R144). -/
inductive TicketState where
  | presetting | awaitPickup | done | notTaken | failed | cancelled | aborted
deriving DecidableEq, Repr

/-- Ticket steps (R144). -/
inductive Step where
  | presetWait | presetOwed | latchWait | latchOwed
deriving DecidableEq, Repr

/-- Ticket endings (R144). -/
inductive TicketEnding where
  | pickedUp | timedOut | noUnit | unitFailed | cancelled | reset
deriving DecidableEq, Repr

/-- An issue ticket in use (R144). -/
structure Ticket where
  state : TicketState
  account : Nat
  hall : Nat
  language : Nat
  desk : Nat
  tariff : Nat
  receiver : Option Nat
  attempts : Nat
  step : Option Step
  timer : Nat
  ending : Option TicketEnding
deriving DecidableEq, Repr

/-- The Receiver Pool Manager. A ticket is free exactly when the table does not list it. Listening counts are listed at
hall × 48 + language. -/
structure Rpm where
  receivers : Table Receiver
  threshold : Nat
  pickupTimeout : Nat
  queues : Table (List Nat)
  tickets : Table Ticket
  listening : Table Nat
deriving DecidableEq, Repr

/-! ## Account Unit (R159 to R179) -/

/-- Account states (R159). -/
inductive AccountState where
  | free | opened | suspended | closed
deriving DecidableEq, Repr

/-- Account kinds (R159). -/
inductive AccountKind where
  | delegate | delegation | organiser | interpreter
deriving DecidableEq, Repr

/-- An account record (R159). -/
structure Account where
  state : AccountState
  kind : AccountKind
  name : Option Text
  tariff : Nat
  creditLimit : Nat
  unitCap : Nat
  hireEnd : Option Nat
  preference : Option Nat
  balance : Int
  heldBalance : Int
  deposit : Nat
  unitsHeld : Nat
  unitsPending : Nat
  liveSeconds : Nat
  serviceSeconds : Nat
  heldSeconds : Nat
  console : Option Nat
  frozen : Bool
deriving DecidableEq, Repr

/-- A tariff record (R167): block length in minutes, hire limit and lost grace in hours, money in cents. -/
structure Tariff where
  blockLength : Nat
  blockRate : Nat
  cap : Nat
  hireLimit : Nat
  overdueRate : Nat
  lostGrace : Nat
  deposit : Nat
  lostFee : Nat
  minuteRate : Nat
deriving DecidableEq, Repr

/-- The Account Unit. -/
structure Acu where
  accounts : Table Account
  tariffs : Table Tariff
deriving DecidableEq, Repr

/-! ## Timebase and Attention Unit (R193 to R200) -/

/-- Causes, in the order of their positions (R196). -/
inductive Cause where
  | resetSeen | commitDone | hallApplied | routeStuck | matrixAlert | consoleChange | dutyDue | dutyOver | slotChange
  | foreignUnit | unexpectedRemoval | ticketDone | hireOverdue | hireLost | lateReturn | wake | faultSet
deriving DecidableEq, Repr

/-- Faults, in the order of their positions (R198). -/
inductive FaultName where
  | power | trefLost | matrixDown | stuck | segment0 | segment1 | rackSilent | frame
deriving DecidableEq, Repr

/-- The Timebase and Attention Unit. The cause set, the enables and the fault set are words of position bits (9.5.1). -/
structure Tau where
  clock : Nat
  /-- The tick source is INTERNAL. -/
  internal : Bool
  /-- The moment the TREF watch runs out, none while it does not run. -/
  watch : Option Nat
  /-- The moment of the next internal tick, none while the tick source is TREF. -/
  nextInternal : Option Nat
  causes : BitVec 17
  enables : BitVec 17
  faults : BitVec 8
  /-- The pulses of PULSE_ATTN still running. -/
  pulses : Nat
  /-- The part's own timebase in milliseconds (1.5.3). -/
  now : Nat
deriving DecidableEq, Repr

/-! ## The machine -/

/-- Why a step can stop with a fault. There is none: the spec gives every command of the block an effect in every state,
and its own faults are members of the fault set, which is state (R198). Nothing raises one, so this is safe. -/
inductive Fault where
deriving DecidableEq, Repr

/-- Why a command has no meaning. -/
inductive Refusal where
  /-- Raised by an arm of exec for a command that is not modelled yet. Safe: the model stops where the part goes on. -/
  | notModelled (mnemonic : String)
deriving DecidableEq, Repr

/-- The whole state: one record per block, and the commands waiting, first in first out. -/
structure State where
  cpi : Cpi
  pls : Pls
  rte : Rte
  bbc : Bbc
  fla : Fla
  rks : Rks
  rpm : Rpm
  acu : Acu
  tau : Tau
  pending : List Instr
deriving DecidableEq, Repr

/-! ## Reset contents -/

/-- The response that follows a reset (R184). -/
def Response.resetSeen (code : Byte) (tag : Tag) : Response := { result := .resetSeen, code, tag, body := [] }

/-- R6. -/
def Entry.empty : Entry := { language := none, fallback := .floor, interlock := .firstHolds }

/-- R6. -/
def HallPlan.initial : HallPlan := { width := 32, entries := Table.empty }

/-- R6: the home hall is the booth number divided by 6, capped at H5. -/
def BoothPlan.initial (b : Nat) : BoothPlan := { home := min (b / 6) 5, a := none, b := none, relay := .floor }

/-- R6. -/
def Plan.initial : Plan := { halls := Table.empty, booths := Table.empty }

/-- R26. -/
def Report.initial : Report :=
  { kind := none, ending := .complete, version := 0, hallsChanged := 0, stuck := 0, relayResets := 0, planCuts := 0 }

/-- R29, R40. -/
def Hall.initial : Hall :=
  { state := .quiet, joined := false, organiser := none, tariff := 0, beaconOn := false, mapVersion := 0,
    announced := Table.empty, sent := [], nextFrame := 0 }

/-- R43. -/
def Route.initial : Route := { desired := .silence, confirmed := none, status := .pending, mark := false, attempts := 0 }

/-- R64. -/
def Link.initial : Link :=
  { state := .absent, misses := 0, identPending := false, directiveBit := false, acceptedBit := false, stored := .none,
    answer := .none, directives := [], offered := false, errors := 0 }

/-- R65: the round position is the lowest address of the segment, every probe due at once. -/
def Segment.initial (lowest : Nat) : Segment :=
  { position := lowest, silentRounds := 0, silent := false, probes := Table.empty, transaction := none, polled := false,
    answered := false, ending := false, afterPoll := true, sent := [] }

/-- R86. -/
def FloorRecord.initial : FloorRecord :=
  { mic := .off, switch := .a, login := none, dutyTimer := 0, dutyWarned := false, dutyOver := false, lastOff := none }

/-- R87. -/
def BoothFloor.initial : BoothFloor :=
  { mode := .exclusive, window := 0, dutyLimit := 30, loginRequired := false, snoop := true, forced := .a,
    relayLock := false, pick := .floor, holder := none, requests := [], deadline := none, direction := .a }

/-- R88. -/
def ChannelToken.initial : ChannelToken := { holder := none, waits := [], service := 0 }

/-- R112. -/
def Rack.initial : Rack :=
  { desk := none, normal := 160, night := 1280, silent := false, missed := 0, nextScan := .fallen 0, lastScan := none,
    jobs := [], attempt := none, startReady := none }

/-- R115. -/
def Slot.initial : Slot :=
  { state := .disabled, occupant := none, presence := .absent, candidate := none, latch := .closed, attention := false,
    wake := false }

/-- R133. -/
def Receiver.initial : Receiver :=
  { serial := none, state := .free, slot := none, battery := none, readyTime := 0, ticket := none, hire := none }

/-- R159. -/
def Account.initial : Account :=
  { state := .free, kind := .delegate, name := none, tariff := 0, creditLimit := 0, unitCap := 0, hireEnd := none,
    preference := none, balance := 0, heldBalance := 0, deposit := 0, unitsHeld := 0, unitsPending := 0,
    liveSeconds := 0, serviceSeconds := 0, heldSeconds := 0, console := none, frozen := false }

/-- R167. -/
def Tariff.initial : Tariff :=
  { blockLength := 60, blockRate := 0, cap := 0, hireLimit := 24, overdueRate := 0, lostGrace := 24, deposit := 0,
    lostFee := 0, minuteRate := 0 }

/-- R184: after a hard reset the port is in recovery with echo 0 and 0, the window is H0, there is no cursor. What is held
and what was last shifted out meanwhile is DESIGN CHOICE (log 7). -/
def Cpi.reset : Cpi :=
  { held := Response.resetSeen 0 0, window := 0, cursor := none,
    recovery := some { code := 0, tag := 0, startsWatch := true, ends := 2 }, status := 0, delivered := none }

/-- R1, R6, R25, R26, R29. -/
def Pls.reset : Pls :=
  { languages := Table.empty, draft := Plan.initial, active := Plan.initial, draftVersion := 0, planVersion := 0,
    operation := none, markCount := 0, report := Report.initial, halls := Table.empty }

/-- R43, R49: every destination waits in BULK in ascending order, the link is UP with nothing outstanding. -/
def Rte.reset : Rte :=
  { routes := Table.empty, urgent := [], bulk := List.range Config.destinations, up := true, outstanding := none,
    timeouts := 0, nextTag := 0, probeDue := 0, sent := [] }

/-- R64, R65. -/
def Bbc.reset : Bbc := { links := Table.empty, segment0 := Segment.initial 0, segment1 := Segment.initial 48 }

/-- R86, R87, R88. -/
def Fla.reset : Fla := { consoles := Table.empty, booths := Table.empty, tokens := Table.empty }

/-- R112, R115, R117, R128. -/
def Rks.reset : Rks :=
  { racks := Table.empty, slots := Table.empty, night := false, pollInterval := 60, pollCounter := 0, line := none,
    sent := [] }

/-- R133, R137, R143, R144, R156. -/
def Rpm.reset : Rpm :=
  { receivers := Table.empty, threshold := 90, pickupTimeout := 30, queues := Table.empty, tickets := Table.empty,
    listening := Table.empty }

/-- R159, R167. -/
def Acu.reset : Acu := { accounts := Table.empty, tariffs := Table.empty }

/-- R193, R194, R196, R198, R200: RESET_SEEN alone in the cause set, POWER alone in the fault set. -/
def Tau.reset : Tau :=
  { clock := 0, internal := false, watch := none, nextInternal := none, causes := 1, enables := 0, faults := 1,
    pulses := 0, now := 0 }

/-- The machine right after a hard reset (R200), in reset recovery, with nothing waiting (notes/assumptions 6). -/
def State.reset : State :=
  { cpi := Cpi.reset, pls := Pls.reset, rte := Rte.reset, bbc := Bbc.reset, fla := Fla.reset, rks := Rks.reset,
    rpm := Rpm.reset, acu := Acu.reset, tau := Tau.reset, pending := [] }

end Sys2Proof.Machine
end

