-- ==== Sys2Proof/Machine/Wire.lean ====
section
/-! DEFINITION. What the part puts on its wires (9.5): the coding of response fields as body words, the bytes of an exchange,
and the frames it sends on the booth bus, the matrix link, the rack line and the beacon outputs. -/

namespace Sys2Proof.Machine

/-! ## Fields as words (9.5.1) -/

/-- An unsigned field. -/
def natWord (n : Nat) : Word := BitVec.ofNat 32 n

/-- The coding of an optional field that is absent. -/
def noneWord : Word := 4294967295

/-- FLOOR, SILENCE and WINDOW (9.5.1). -/
def floorWord : Word := 4294967294
def silenceWord : Word := 4294967293
def windowWord : Word := 4294967292

/-- An optional unsigned field. -/
def optWord : Option Nat → Word
  | none => noneWord
  | some n => natWord n

/-- An on/off or set/clear field. -/
def boolWord (b : Bool) : Word := if b then 1 else 0

/-- A money field: two's complement. What lies outside 32 bits has no stated word (log 9). -/
def moneyWord (m : Int) : Word :=
  if -2147483648 ≤ m && m ≤ 2147483647 then BitVec.ofInt 32 m else Config.wideMoney m

/-- An optional clock value or serial: presence, then the value. Absent, the value word is 0, which 9.5.1 leaves open (DESIGN CHOICE,
log 42). -/
def presenceWords : Option Word → List Word
  | none => [0, 0]
  | some w => [1, w]

/-- Characters packed four to a word, padded with zero bytes, over `n` words. -/
def textWords : Nat → Text → List Word
  | 0, _ => []
  | n + 1, t => bytesWord (t.getD 0 0) (t.getD 1 0) (t.getD 2 0) (t.getD 3 0) :: textWords n (t.drop 4)

/-- The characters of text words: the zero bytes at the end are padding (log 26). -/
def wordsText (ws : List Word) : Text := ((ws.flatMap wordBytes).reverse.dropWhile (· = 0)).reverse

/-- A label that may be absent: one word. -/
def labelWords : Option Text → List Word
  | none => [noneWord]
  | some t => textWords 1 t

/-- A name tag that may be absent: two words. Absent, both are none: 9.5.1 gives none as one word (DESIGN CHOICE, log 43). -/
def nameWords : Option Text → List Word
  | none => [noneWord, noneWord]
  | some t => textWords 2 t

/-- A list: the number of entries, then each entry's fields. -/
def listWords {α : Type} (f : α → List Word) (l : List α) : List Word := natWord l.length :: l.flatMap f

/-! Enumerated values are coded by their position, from 0, where the manual first lists them (9.5.1). -/

def Fallback.word : Fallback → Word
  | .floor => floorWord
  | .silence => silenceWord
  | .language l => natWord l

def Interlock.word : Interlock → Word
  | .firstHolds => 0
  | .lastTakes => 1

def Pick.word : Pick → Word
  | .floor => floorWord
  | .language l => natWord l

def ApplyKind.position : ApplyKind → Nat
  | .commit => 0
  | .join => 1
  | .split => 2

def Ending.word : Ending → Word
  | .complete => 0
  | .aborted => 1

def HallState.word : HallState → Word
  | .live => 0
  | .quiet => 1
  | .floorAll => 2
  | .tone => 3

def RouteStatus.position : RouteStatus → Nat
  | .settled => 0
  | .pending => 1
  | .stuck => 2

def LinkState.position : LinkState → Nat
  | .absent => 0
  | .online => 1
  | .suspect => 2
  | .offline => 3

def Direction.word : Direction → Word
  | .a => 0
  | .b => 1

def MicState.word : MicState → Word
  | .off => 0
  | .waitBooth => 1
  | .waitChannel => 2
  | .live => 3

def Mode.word : Mode → Word
  | .exclusive => 0
  | .handover => 1
  | .override => 2

/-- The position of a reason in the reason table of R101. -/
def OffReason.position : OffReason → Nat
  | .released => 0
  | .forced => 1
  | .override => 2
  | .handover => 3
  | .channelTaken => 4
  | .channelBusy => 5
  | .noChannel => 6
  | .logout => 7
  | .offline => 8
  | .planCut => 9
  | .hallTest => 10
  | .join => 11
  | .split => 12

def JobKind.position : JobKind → Nat
  | .identify => 0
  | .preset => 1
  | .latchOpen => 2
  | .latchClose => 3

def JobOrigin.word : JobOrigin → Word
  | .arrival => 0
  | .poll => 1
  | .host => 2
  | .rpm => 3
  | .reset => 4

def SlotState.position : SlotState → Nat
  | .disabled => 0
  | .empty => 1
  | .settling => 2
  | .ident => 3
  | .occupied => 4
  | .foreign => 5
  | .issuing => 6
  | .fault => 7

def Presence.word : Presence → Word
  | .present => 0
  | .absent => 1
  | .unsettled => 2

/-- A debounce candidate: present, absent or none, in the order of R115. -/
def candidateWord : Option Bool → Word
  | some true => 0
  | some false => 1
  | none => noneWord

def Latch.word : Latch → Word
  | .closed => 0
  | .opened => 1
  | .unknown => 2

def ReceiverState.position : ReceiverState → Nat
  | .free => 0
  | .stock => 1
  | .charging => 2
  | .ready => 3
  | .issuing => 4
  | .issued => 5
  | .overdue => 6
  | .lost => 7
  | .loose => 8
  | .faulty => 9

def TicketState.position : TicketState → Nat
  | .presetting => 0
  | .awaitPickup => 1
  | .done => 2
  | .notTaken => 3
  | .failed => 4
  | .cancelled => 5
  | .aborted => 6

def Step.position : Step → Nat
  | .presetWait => 0
  | .presetOwed => 1
  | .latchWait => 2
  | .latchOwed => 3

def TicketEnding.position : TicketEnding → Nat
  | .pickedUp => 0
  | .timedOut => 1
  | .noUnit => 2
  | .unitFailed => 3
  | .cancelled => 4
  | .reset => 5

def AccountState.position : AccountState → Nat
  | .free => 0
  | .opened => 1
  | .suspended => 2
  | .closed => 3

def AccountKind.word : AccountKind → Word
  | .delegate => 0
  | .delegation => 1
  | .organiser => 2
  | .interpreter => 3

/-- The number of a result or reason (9.5.3). -/
def Result.number : Result → Nat
  | .ok => 0 | .accepted => 1 | .finished => 2 | .resetSeen => 3 | .badFrame => 4 | .badValue => 5 | .badState => 6
  | .busy => 7 | .duplicate => 8 | .full => 9 | .inUse => 10 | .badLanguage => 11 | .staleDraft => 12 | .badChannel => 13
  | .badFallback => 14 | .badBooth => 15 | .feeders => 16 | .joined => 17 | .notJoined => 18 | .notLive => 19
  | .notCarried => 20 | .hallNotLive => 21 | .accountState => 22 | .unitCap => 23 | .credit => 24 | .noLanguage => 25
  | .ticketsFull => 26 | .noTicket => 27 | .noReceiver => 28 | .docked => 29 | .notPresent => 30 | .unsettled => 31
  | .noList => 32 | .selfRelay => 33 | .relayDepth => 34 | .locked => 35 | .loggedIn => 36 | .notLogged => 37
  | .noChannel => 38 | .boothBusy => 39 | .channelBusy => 40 | .noUnit => 41 | .tooLate => 42 | .openHire => 43
  | .fallbackLoop => 44

/-- The number of a source (9.5.5). -/
def Source.number : Source → Nat
  | .floor h => h
  | .tone => 6
  | .silence => 7
  | .booth b => 8 + b
  | .bus d => 40 + d

/-- The source of a number below 232 (9.5.5). -/
def Source.ofNumber (n : Nat) : Source :=
  if n < 6 then .floor n else if n = 6 then .tone else if n = 7 then .silence else if n < 40 then .booth (n - 8)
  else .bus (n - 40)

/-- A confirmed source: UNKNOWN is 255 (9.5.1). -/
def confirmedWord : Option Source → Word
  | none => 255
  | some c => natWord c.number

/-- The answer to an indication as a response field: its position and its reason. The stored answer and the poll answer
number REFUSED differently (R64, log 8). -/
def Answer.words (refusedAt : Word) : Answer → List Word
  | .none => [0, noneWord]
  | .taken => [1, noneWord]
  | .busy => [2, noneWord]
  | .refused r => [refusedAt, natWord r.number]

/-- Directive kinds (R76). -/
inductive DirectiveKind where
  | mic | lock | relay | handover | duty | ident | cue
deriving DecidableEq, Repr

def DirectiveKind.word : DirectiveKind → Word
  | .mic => 0
  | .lock => 1
  | .relay => 2
  | .handover => 3
  | .duty => 4
  | .ident => 5
  | .cue => 6

/-- The kind of a directive (R76). -/
def Directive.kind : Directive → DirectiveKind
  | .micOn => .mic
  | .micOff _ => .mic
  | .lock => .lock
  | .unlock => .lock
  | .relaySet _ => .relay
  | .handoverAsked => .handover
  | .dutyWarn _ => .duty
  | .ident _ _ => .ident
  | .cueIn _ _ => .cue

/-- A directive in the report of READ_CONSOLE (R84): its kind, the directive by its place in the table of R76, and what it
carries (log 8). -/
def Directive.words (d : Directive) : List Word :=
  d.kind.word ::
    match d with
    | .micOn => [0]
    | .micOff r => [1, natWord r.position]
    | .lock => [2]
    | .unlock => [3]
    | .relaySet p => [4, p.word]
    | .handoverAsked => [5]
    | .dutyWarn t => [6, natWord t]
    | .ident a h => [7, natWord a, natWord h]
    | .cueIn b t => 8 :: natWord b :: textWords 2 t

/-! ## Bytes of an exchange (9.5.1) -/

/-- The bytes of a response: result, body length in words, echoed code and tag, body. -/
def Response.bytes (r : Response) : List Byte :=
  BitVec.ofNat 8 r.result.number :: BitVec.ofNat 8 r.body.length :: r.code :: (halfBytes r.tag ++ r.body.flatMap wordBytes)

/-- What CP_DOUT carries in an exchange before the bytes of 0: the status byte, then the response delivered (R180). -/
def Cpi.shiftedOut (c : Cpi) : List Byte :=
  c.status :: match c.delivered with
    | none => []
    | some r => r.bytes

/-- CP_DOUT at the bit of the exchange numbered `n`, from 0: the bytes shifted out with their most significant bit first, then bits of 0;
not driven while RESET_N is low (R180). -/
def Cpi.dout (c : Cpi) (resetN : Bool) (n : Nat) : Option Bool :=
  if resetN then some ((c.shiftedOut.flatMap byteBits).getD n false) else none

/-- CP_DOUT as the pins stand: the bit that the last falling edge of CP_SCK put there, in an exchange. `c` is the port as the exchange has
it, its status byte and the response it delivers (State.exchange). Outside an exchange, and so while RESET_N is low, it is not driven
(R180; between exchanges DESIGN CHOICE, log 47). -/
def Cpi.driven (c : Cpi) (r : PortReader) : Option Bool := r.bits.bind fun _ => c.dout true r.shown

/-- CP_DOUT over a run of levels. -/
def Cpi.drivenLevels (c : Cpi) (r : PortReader) : List PortLevels → List (Option Bool)
  | [] => []
  | p :: rest => c.driven (r.next p).1 :: c.drivenLevels (r.next p).1 rest

/-! ## Frames the part sends (9.5.4 to 9.5.7) -/

def byteOf (n : Nat) : Byte := BitVec.ofNat 8 n

/-- The directive number of a poll frame and its argument bytes (9.5.4). The duty timer of a DUTY_WARN goes out most significant byte
first: 9.5.4 gives its four bytes no order (DESIGN CHOICE, log 23). -/
def Directive.bytes : Directive → Nat × List Byte
  | .micOn => (1, [])
  | .micOff r => (2, [byteOf r.position])
  | .handoverAsked => (3, [])
  | .dutyWarn t => (4, wordBytes (natWord t))
  | .cueIn b t => (5, byteOf b :: byteOf t.length :: t)
  | .relaySet .floor => (6, [255])
  | .relaySet (.language l) => (6, [byteOf l])
  | .lock => (7, [])
  | .unlock => (8, [])
  | .ident a h => (9, [byteOf a, byteOf h])

def Answer.code : Answer → Nat
  | .none => 0
  | .taken => 1
  | .busy => 2
  | .refused _ => 3

def Answer.reasonByte : Answer → Byte
  | .refused r => byteOf r.number
  | .none => 0
  | .taken => 0
  | .busy => 0

/-- A poll frame (R68, 9.5.4). -/
def pollFrame (console : Nat) (bit : Bool) (answer : Answer) (directive : Option Directive) : List Byte :=
  let (code, args) := match directive with
    | none => (0, [])
    | some d => d.bytes
  sealFrame (byteOf console :: byteOf ((if bit then 128 else 0) + 16 * answer.code + code) :: answer.reasonByte :: args)

/-- A probe: a poll frame with directive bit 0, poll answer NONE and directive NONE (R67). -/
def probeFrame (console : Nat) : List Byte := pollFrame console false .none none

/-- A SET frame (9.5.5). -/
def setFrame (c : SetCommand) : List Byte :=
  sealFrame [0x01, byteOf c.destination, byteOf c.source.number, c.tag.setWidth 8]

/-- A PROBE frame of the matrix link (9.5.5). -/
def matrixProbeFrame : List Byte := sealFrame [0x02]

/-- A SCAN frame (9.5.6). -/
def scanFrame (rack : Nat) : List Byte := sealFrame [byteOf (16 + rack)]

/-- A START frame (9.5.6). -/
def startFrame (rack : Nat) (job : Job) : List Byte :=
  sealFrame (byteOf (32 + rack) :: byteOf (job.slot % 40) :: byteOf (job.kind.position + 1) ::
    match job.preset with
    | none => []
    | some p => byteOf p.hall :: byteOf p.language :: (textWords 1 p.label).flatMap wordBytes)

/-- A RESULT frame (9.5.6). -/
def resultFrame (rack slot : Nat) : List Byte := sealFrame [byteOf (48 + rack), byteOf (slot % 40)]

/-- A beacon frame (9.5.7): hall, map version, 32 entries of 4 bytes. -/
def beaconFrame (hall : Nat) (version : Byte) (map : Table Text) : List Byte :=
  sealFrame (byteOf hall :: version ::
    ((List.range 32).flatMap fun c => (textWords 1 (map.get [] c)).flatMap wordBytes))

end Sys2Proof.Machine
end

