-- ==== Sys2Proof/Machine/Flags.lean ====
section
/-! DEFINITION. The cause set, the fault set, the attention line and the summary bits of the status byte (R182, R196 to R199). -/

namespace Sys2Proof.Machine

/-- The position of a cause (R196). -/
def Cause.position : Cause → Nat
  | .resetSeen => 0 | .commitDone => 1 | .hallApplied => 2 | .routeStuck => 3 | .matrixAlert => 4 | .consoleChange => 5
  | .dutyDue => 6 | .dutyOver => 7 | .slotChange => 8 | .foreignUnit => 9 | .unexpectedRemoval => 10 | .ticketDone => 11
  | .hireOverdue => 12 | .hireLost => 13 | .lateReturn => 14 | .wake => 15 | .faultSet => 16

/-- The position of a fault (R198). -/
def FaultName.position : FaultName → Nat
  | .power => 0 | .trefLost => 1 | .matrixDown => 2 | .stuck => 3 | .segment0 => 4 | .segment1 => 5 | .rackSilent => 6
  | .frame => 7

/-- The set holding one cause. -/
def Cause.bit (c : Cause) : BitVec 17 := BitVec.twoPow 17 c.position

/-- The set holding one fault. -/
def FaultName.bit (f : FaultName) : BitVec 8 := BitVec.twoPow 8 f.position

/-- The cause is in the cause set. -/
def Tau.hasCause (t : Tau) (c : Cause) : Bool := t.causes.getLsbD c.position

/-- The fault is in the fault set. -/
def Tau.hasFault (t : Tau) (f : FaultName) : Bool := t.faults.getLsbD f.position

/-- A raised cause enters the set; one already present stays as it is (R196). -/
def Tau.raise (t : Tau) (c : Cause) : Tau := { t with causes := t.causes ||| c.bit }

/-- A fault enters the set: where it was not there the cause FAULT_SET is raised (R198). -/
def Tau.enter (t : Tau) (f : FaultName) : Tau :=
  if t.hasFault f then t else ({ t with faults := t.faults ||| f.bit }).raise .faultSet

/-- A fault leaves the set. -/
def Tau.leave (t : Tau) (f : FaultName) : Tau := { t with faults := t.faults &&& ~~~f.bit }

/-- A condition fault is in the set exactly while its condition is present (R198). -/
def Tau.follow (t : Tau) (f : FaultName) (present : Bool) : Tau := if present then t.enter f else t.leave f

/-- An enabled cause is in the set: the ATTN bit of the status byte (R182, R196). -/
def Tau.attention (t : Tau) : Bool := t.causes &&& t.enables ≠ 0

/-- ATTN_N is driven low: by an enabled cause, or by a pulse that is running (R196, R197). -/
def Tau.attnLow (t : Tau) : Bool := t.attention || t.pulses ≠ 0

/-- The fault set is not empty: the FAULT bit of the status byte (R198). -/
def Tau.faulty (t : Tau) : Bool := t.faults ≠ 0

/-- The status byte: bit 0 ATTN, bit 1 FAULT, bit 2 NOT_READY, the rest 0 (R182, 9.5.1). -/
def Tau.statusByte (t : Tau) (notReady : Bool) : Byte :=
  byteOf ((if t.attention then 1 else 0) + (if t.faulty then 2 else 0) + (if notReady then 4 else 0))

/-- The timebase reaches a moment: it never goes back (log 4). -/
def Tau.reach (t : Tau) (moment : Nat) : Tau := { t with now := max t.now moment }

end Sys2Proof.Machine
end

