-- ==== Sys2Proof/Machine/Operands.lean ====
section
/-! DEFINITION. The operand forms of the requests: what a body word says by the coding of 9.5.1. A word outside its field's
coding reads as none, and the request is then refused BAD_VALUE before any other check (R187). -/

namespace Sys2Proof.Machine

/-- An index or count below `n`. -/
def below (n : Nat) (w : Word) : Option Nat := if w.toNat < n then some w.toNat else none

/-- A count from `lo` to `hi`. -/
def within (lo hi : Nat) (w : Word) : Option Nat := if lo ≤ w.toNat && w.toNat ≤ hi then some w.toNat else none

/-- An optional index below `n`. -/
def optBelow (n : Nat) (w : Word) : Option (Option Nat) := if w = noneWord then some none else (below n w).map some

/-- An on/off field, or a clear option. -/
def onOff (w : Word) : Option Bool := if w = 0 then some false else if w = 1 then some true else none

/-- A hall field: a hall number, or WINDOW, which reads as the hall window (R188). -/
def hallField (window : Nat) (w : Word) : Option Nat := if w = windowWord then some window else below Config.halls w

/-- A fallback: FLOOR, SILENCE or a slot (R9). -/
def fallbackField (w : Word) : Option Fallback :=
  if w = floorWord then some .floor else if w = silenceWord then some .silence
  else (below Config.languages w).map .language

/-- A relay pick or relay default: FLOOR or a slot (R10, R103). -/
def pickField (w : Word) : Option Pick :=
  if w = floorWord then some .floor else (below Config.languages w).map .language

/-- An interlock (R4). -/
def interlockField (w : Word) : Option Interlock :=
  if w = 0 then some .firstHolds else if w = 1 then some .lastTakes else none

/-- A direction (R87). -/
def directionField (w : Word) : Option Direction := if w = 0 then some .a else if w = 1 then some .b else none

/-- An interlock mode (R87). -/
def modeField (w : Word) : Option Mode :=
  if w = 0 then some .exclusive else if w = 1 then some .handover else if w = 2 then some .override else none

/-- A hall state (R29). -/
def hallStateField (w : Word) : Option HallState :=
  if w = 0 then some .live else if w = 1 then some .quiet else if w = 2 then some .floorAll else if w = 3 then some .tone
  else none

/-- A width (R4). -/
def widthField (w : Word) : Option Nat :=
  if w = 8 || w = 16 || w = 24 || w = 32 then some w.toNat else none

/-- A scan interval: one of the eight values of R112. -/
def intervalField (w : Word) : Option Nat :=
  if [20, 40, 80, 160, 320, 640, 1280, 2560].contains w.toNat then some w.toNat else none

/-- An account kind (R159). -/
def kindField (w : Word) : Option AccountKind :=
  if w = 0 then some .delegate else if w = 1 then some .delegation else if w = 2 then some .organiser
  else if w = 3 then some .interpreter else none

/-- An optional clock value of two words: presence, then the value. With presence 0 the value word is ignored, whatever it holds, which
the spec leaves open (DESIGN CHOICE, log 44). -/
def optClock (present value : Word) : Option (Option Nat) :=
  if present = 0 then some none else if present = 1 then some (some value.toNat) else none

/-- A list table (R189). -/
def tableField (w : Word) : Option ListTable :=
  if w = 0 then some .languages else if w = 1 then some .booths else if w = 2 then some .consoles
  else if w = 3 then some .routes else if w = 4 then some .slots else if w = 5 then some .receivers
  else if w = 6 then some .tickets else if w = 7 then some .accounts else none

/-- An upper-case letter or a digit. -/
def letterOrDigit (c : Byte) : Bool := (65 ≤ c.toNat && c.toNat ≤ 90) || (48 ≤ c.toNat && c.toNat ≤ 57)

/-- A label: 1 to 4 characters, each A to Z or 0 to 9 (R1, R2). -/
def labelField (w : Word) : Option Text :=
  let t := wordsText [w]
  if t.length ≠ 0 && t.length ≤ 4 && t.all letterOrDigit then some t else none

/-- A name tag: 1 to 8 characters, each A to Z, 0 to 9 or the hyphen (R159, R161). -/
def nameField (w1 w2 : Word) : Option Text :=
  let t := wordsText [w1, w2]
  if t.length ≠ 0 && t.length ≤ 8 && t.all (fun c => letterOrDigit c || c = 45) then some t else none

end Sys2Proof.Machine
end

