-- ==== Sys2Proof/Machine/Ops.lean ====
section
/-! DEFINITION. The named operations over the records: every record is read through one reader, which gives the reset content
of a record that is not listed, and written through one writer. -/

namespace Sys2Proof.Machine

/-! ## Plans -/

def HallPlan.entry (p : HallPlan) (c : Nat) : Entry := p.entries.get Entry.empty c
def HallPlan.setEntry (p : HallPlan) (c : Nat) (e : Entry) : HallPlan := { p with entries := p.entries.put Entry.empty c e }
def Plan.hall (p : Plan) (h : Nat) : HallPlan := p.halls.get HallPlan.initial h
def Plan.setHall (p : Plan) (h : Nat) (x : HallPlan) : Plan := { p with halls := p.halls.put HallPlan.initial h x }
def Plan.booth (p : Plan) (b : Nat) : BoothPlan := p.booths.get (BoothPlan.initial b) b
def Plan.setBooth (p : Plan) (b : Nat) (x : BoothPlan) : Plan := { p with booths := p.booths.put (BoothPlan.initial b) b x }

/-! ## Records of the blocks -/

def State.hall (s : State) (h : Nat) : Hall := s.pls.halls.get Hall.initial h
def State.setHall (s : State) (h : Nat) (x : Hall) : State :=
  { s with pls := { s.pls with halls := s.pls.halls.put Hall.initial h x } }

/-- The label of a language, none while its slot is FREE (R1). -/
def State.label (s : State) (l : Nat) : Option Text := s.pls.languages.lookup l

def Rte.route (r : Rte) (d : Nat) : Route := r.routes.get Route.initial d
def Rte.setRoute (r : Rte) (d : Nat) (x : Route) : Rte := { r with routes := r.routes.put Route.initial d x }
def State.route (s : State) (d : Nat) : Route := s.rte.route d
def State.setRoute (s : State) (d : Nat) (x : Route) : State := { s with rte := s.rte.setRoute d x }

def Bbc.link (b : Bbc) (a : Nat) : Link := b.links.get Link.initial a
def Bbc.setLink (b : Bbc) (a : Nat) (x : Link) : Bbc := { b with links := b.links.put Link.initial a x }
def State.link (s : State) (a : Nat) : Link := s.bbc.link a
def State.setLink (s : State) (a : Nat) (x : Link) : State := { s with bbc := s.bbc.setLink a x }

/-- The record of segment 0 or 1. -/
def Bbc.segment (b : Bbc) (g : Nat) : Segment := if g = 0 then b.segment0 else b.segment1
def Bbc.setSegment (b : Bbc) (g : Nat) (x : Segment) : Bbc := if g = 0 then { b with segment0 := x } else { b with segment1 := x }

def State.floor (s : State) (a : Nat) : FloorRecord := s.fla.consoles.get FloorRecord.initial a
def State.setFloor (s : State) (a : Nat) (x : FloorRecord) : State :=
  { s with fla := { s.fla with consoles := s.fla.consoles.put FloorRecord.initial a x } }
def State.booth (s : State) (b : Nat) : BoothFloor := s.fla.booths.get BoothFloor.initial b
def State.setBooth (s : State) (b : Nat) (x : BoothFloor) : State :=
  { s with fla := { s.fla with booths := s.fla.booths.put BoothFloor.initial b x } }
/-- The channel token record of hall × 32 + channel (R88). -/
def State.token (s : State) (k : Nat) : ChannelToken := s.fla.tokens.get ChannelToken.initial k
def State.setToken (s : State) (k : Nat) (x : ChannelToken) : State :=
  { s with fla := { s.fla with tokens := s.fla.tokens.put ChannelToken.initial k x } }

def Rks.rack (r : Rks) (k : Nat) : Rack := r.racks.get Rack.initial k
def Rks.setRack (r : Rks) (k : Nat) (x : Rack) : Rks := { r with racks := r.racks.put Rack.initial k x }
def State.rack (s : State) (k : Nat) : Rack := s.rks.rack k
def State.setRack (s : State) (k : Nat) (x : Rack) : State := { s with rks := s.rks.setRack k x }
def State.slot (s : State) (k : Nat) : Slot := s.rks.slots.get Slot.initial k
/-- A slot record written without regard to SLOT_CHANGE (see changeSlot). -/
def State.setSlot (s : State) (k : Nat) (x : Slot) : State :=
  { s with rks := { s.rks with slots := s.rks.slots.put Slot.initial k x } }

def State.receiver (s : State) (r : Nat) : Receiver := s.rpm.receivers.get Receiver.initial r
def State.setReceiver (s : State) (r : Nat) (x : Receiver) : State :=
  { s with rpm := { s.rpm with receivers := s.rpm.receivers.put Receiver.initial r x } }
def State.queue (s : State) (d : Nat) : List Nat := s.rpm.queues.get [] d
def State.setQueue (s : State) (d : Nat) (l : List Nat) : State :=
  { s with rpm := { s.rpm with queues := s.rpm.queues.put [] d l } }
/-- The ticket in use under a number, none where the ticket is free (R144). -/
def State.ticket (s : State) (t : Nat) : Option Ticket := s.rpm.tickets.lookup t
def State.setTicket (s : State) (t : Nat) (x : Ticket) : State :=
  { s with rpm := { s.rpm with tickets := s.rpm.tickets.insert t x } }
def State.freeTicket (s : State) (t : Nat) : State := { s with rpm := { s.rpm with tickets := s.rpm.tickets.erase t } }
/-- The listening count of a hall and a language (R156). -/
def State.listening (s : State) (h l : Nat) : Nat := s.rpm.listening.get 0 (h * Config.languages + l)
def State.setListening (s : State) (h l n : Nat) : State :=
  { s with rpm := { s.rpm with listening := s.rpm.listening.put 0 (h * Config.languages + l) n } }

def Acu.account (u : Acu) (a : Nat) : Account := u.accounts.get Account.initial a
def Acu.setAccount (u : Acu) (a : Nat) (x : Account) : Acu := { u with accounts := u.accounts.put Account.initial a x }
def State.account (s : State) (a : Nat) : Account := s.acu.account a
def State.setAccount (s : State) (a : Nat) (x : Account) : State := { s with acu := s.acu.setAccount a x }
def State.tariff (s : State) (t : Nat) : Tariff := s.acu.tariffs.get Tariff.initial t
def State.setTariff (s : State) (t : Nat) (x : Tariff) : State :=
  { s with acu := { s.acu with tariffs := s.acu.tariffs.put Tariff.initial t x } }

/-! ## Causes and time -/

def State.raise (s : State) (c : Cause) : State := { s with tau := s.tau.raise c }
/-- The part's own timebase, in milliseconds. -/
def State.now (s : State) : Nat := s.tau.now
/-- A deadline's moment has come: the timebase is at least there (log 4). -/
def State.reach (s : State) (moment : Nat) : State := { s with tau := s.tau.reach moment }

def Due.moment : Due → Nat
  | .at m => m
  | .fallen m => m

/-- The deadline has fallen due. -/
def Due.isFallen : Due → Bool
  | .at _ => false
  | .fallen _ => true

/-- The deadline falls due. -/
def Due.fall (d : Due) : Due := .fallen d.moment

/-- A deadline set to a moment that may lie behind: it fell due at its own moment (R123). -/
def Due.from (now moment : Nat) : Due := if moment ≤ now then .fallen moment else .at moment

/-- A deadline set to a moment, or at once where that moment has passed: it then falls due now (R113, R117). -/
def Due.orNow (now moment : Nat) : Due := if moment ≤ now then .fallen now else .at moment

/-- The milliseconds that remain, 0 when the moment has passed (R130). -/
def Due.remaining (now : Nat) : Due → Nat
  | .at m => m - now
  | .fallen _ => 0

/-- Fold an operation over a list of records, in the order given. -/
def State.each (s : State) (l : List Nat) (f : State → Nat → State) : State := l.foldl f s

end Sys2Proof.Machine
end

