-- ==== Sys2Proof/Machine/Plan.lean ====
section
/-! DEFINITION. Questions asked of the Plan Store: effective halls and plans, the channel of a language, hire demand, relay
validity, the commit checks, and the map a beacon announces (R7, R14 to R21, R41). -/

namespace Sys2Proof.Machine

/-- The hall numbers, H0 to H5. -/
def hallNumbers : List Nat := List.range Config.halls
/-- The language channels, 1 to 31. -/
def languageChannels : List Nat := List.range' 1 31
def languageNumbers : List Nat := List.range Config.languages
def boothNumbers : List Nat := List.range Config.booths

/-! ## Join pairs, effective halls, effective plans (R7, R29) -/

/-- The even hall of a hall's pair. -/
def senior (h : Nat) : Nat := h - h % 2
/-- The odd hall of a hall's pair. -/
def junior (h : Nat) : Nat := senior h + 1
def isJunior (h : Nat) : Bool := h % 2 == 1

/-- The pair of the hall is JOINED: the field is read from the senior's record (R29). -/
def Pls.joined (p : Pls) (h : Nat) : Bool := (p.halls.get Hall.initial (senior h)).joined

/-- The hall is the junior of a JOINED pair. -/
def Pls.joinedJunior (p : Pls) (h : Nat) : Bool := isJunior h && p.joined h

/-- The hall itself, or the senior while it is a joined junior. -/
def Pls.effectiveHall (p : Pls) (h : Nat) : Nat := if p.joinedJunior h then senior h else h

/-- The effective plan of a hall: its own ACTIVE hall part, or the senior's while it is a joined junior. -/
def Pls.effectivePlan (p : Pls) (h : Nat) : HallPlan := p.active.hall (p.effectiveHall h)

/-- The effective hall of a booth. -/
def Pls.boothHall (p : Pls) (b : Nat) : Nat := p.effectiveHall (p.active.booth b).home

/-- The entry at a channel below the width names the language. -/
def HallPlan.names (p : HallPlan) (l c : Nat) : Bool := c < p.width && (p.entry c).language == some l

/-- The channel of a language: the lowest below the width whose entry names it, none where it is not carried. -/
def HallPlan.channelOf (p : HallPlan) (l : Nat) : Option Nat := languageChannels.find? (p.names l)

/-- The language is carried in the hall part. -/
def HallPlan.carries (p : HallPlan) (l : Nat) : Bool := (p.channelOf l).isSome

/-- The language that the effective plan names at a channel below the width. -/
def HallPlan.languageAt (p : HallPlan) (c : Nat) : Option Nat := if c < p.width then (p.entry c).language else none

/-- A booth's language for a direction (R5, R88). -/
def BoothPlan.language (p : BoothPlan) : Direction → Option Nat
  | .a => p.a
  | .b => p.b

/-- The channel of a booth for a direction, in its effective plan (R88). -/
def Pls.boothChannel (p : Pls) (b : Nat) (d : Direction) : Option Nat :=
  match (p.active.booth b).language d with
  | none => none
  | some l => (p.effectivePlan (p.boothHall b)).channelOf l

/-- The booths whose effective hall is the hall. -/
def Pls.boothsOf (p : Pls) (h : Nat) : List Nat := boothNumbers.filter fun b => p.boothHall b == h

/-- The booths whose home hall is either hall of the pair (R35). -/
def Pls.boothsOfPair (p : Pls) (h : Nat) : List Nat :=
  boothNumbers.filter fun b => senior (p.active.booth b).home == senior h

/-- The consoles of a booth (R63). -/
def consolesOf (b : Nat) : List Nat := [3 * b, 3 * b + 1, 3 * b + 2]

/-- The booth of a console address (R63). -/
def boothOf (a : Nat) : Nat := a / 3

/-! ## The beacon map (R41) -/

/-- The map of a hall's effective plan: the label at each channel that carries a language; an empty entry is not listed. -/
def Pls.beaconMap (p : Pls) (h : Nat) : Table Text :=
  let plan := p.effectivePlan h
  languageChannels.foldl (fun m c =>
    match plan.languageAt c with
    | none => m
    | some l => match p.languages.lookup l with
      | none => m
      | some t => m.insert c t) Table.empty

/-! ## Hire demand (R21, R156) -/

/-- The ticket is open (R144). -/
def Ticket.isOpen (t : Ticket) : Bool := t.state == .presetting || t.state == .awaitPickup

/-- The number of open tickets that name a hall and a language. -/
def State.openTickets (s : State) (h l : Nat) : Nat :=
  s.rpm.tickets.count fun t => t.isOpen && t.hall == h && t.language == l

/-- The hire demand of a hall and a language (R21). -/
def State.demand (s : State) (h l : Nat) : Nat := s.listening h l + s.openTickets h l

/-- The first language, from L0 to L47, in demand in the hall and not carried in a hall part (R21, R34, R38). -/
def State.lostLanguage (s : State) (h : Nat) (plan : HallPlan) : Option Nat :=
  languageNumbers.find? fun l => s.demand h l != 0 && !plan.carries l

/-! ## Relay validity (R14, R15) -/

/-- The booth names the language as its A or its B language. -/
def BoothPlan.feeds (p : BoothPlan) (l : Nat) : Bool := p.a == some l || p.b == some l

/-- The feeders of a language in a hall (R14). -/
def Pls.feeders (p : Pls) (h l : Nat) : List Nat :=
  boothNumbers.filter fun b => p.boothHall b == h && (p.active.booth b).feeds l

/-- The relay depth of a booth is defined and at most `n`, under the picks given. A chain with a cycle exceeds every bound. -/
def Pls.depthWithin (p : Pls) (picks : Nat → Pick) : Nat → Nat → Bool
  | n, b =>
    match picks b with
    | .floor => true
    | .language l =>
      match n with
      | 0 => false
      | m + 1 => ((p.feeders (p.boothHall b) l).filter (· != b)).all (p.depthWithin picks m)

/-- The relay depth as R14 defines it, along the path that leads to the booth (the booth itself stands on it): none where a
path reaches a booth that already stands on it. The fuel bounds the path; 33 is more than there are booths. -/
def Pls.relayDepth (p : Pls) (picks : Nat → Pick) : Nat → List Nat → Nat → Option Nat
  | 0, _, _ => none
  | fuel + 1, path, b =>
    match picks b with
    | .floor => some 0
    | .language l =>
      let next := (p.feeders (p.boothHall b) l).filter (· != b)
      next.foldl (fun best f =>
        match best with
        | none => none
        | some d =>
          if (b :: path).contains f then none
          else match p.relayDepth picks fuel (b :: path) f with
            | none => none
            | some e => some (max d (e + 1))) (some 1)

/-- The checks of R15 for a pick of a booth, against the other booths' picks: none is a valid pick. -/
def Pls.relayCheck (p : Pls) (picks : Nat → Pick) (b : Nat) (pick : Pick) : Option Result :=
  match pick with
  | .floor => none
  | .language l =>
    if !(p.effectivePlan (p.boothHall b)).carries l then some .notCarried
    else if (p.active.booth b).feeds l then some .selfRelay
    else if !p.depthWithin (fun x => if x = b then pick else picks x) 2 b then some .relayDepth
    else none

/-- Every booth's pick as the Floor Arbiter holds it. -/
def State.picks (s : State) : Nat → Pick := fun b => (s.booth b).pick

/-! ## The commit checks (R17 to R21) -/

/-- A refusal of COMMIT_PLAN: the reason and its location. -/
structure CommitRefusal where
  reason : Result
  hall : Option Nat
  channel : Option Nat
  booth : Option Nat
  language : Option Nat
deriving DecidableEq, Repr

/-- The location words of a refusal, in the order hall, channel, booth, language (R17). -/
def CommitRefusal.words (r : CommitRefusal) : List Word := [optWord r.hall, optWord r.channel, optWord r.booth, optWord r.language]

/-- Every hall and channel in the order of examination (R17). -/
def hallChannels : List (Nat × Nat) := hallNumbers.flatMap fun h => languageChannels.map fun c => (h, c)

/-- Check 3 (R18). -/
def Plan.badChannel (p : Plan) : Option CommitRefusal :=
  (hallChannels.find? fun x => ((p.hall x.1).entry x.2).language.isSome && (p.hall x.1).width ≤ x.2).map fun x =>
    { reason := .badChannel, hall := some x.1, channel := some x.2, booth := none, language := none }

/-- Check 4 (R18): the location is the higher of the two channels. Of several repeated languages of a hall it is the one whose repeating
channel is the lowest: R17 and R18 do not order interleaved pairs (DEDUCED, log 14). -/
def Plan.duplicate (p : Plan) : Option CommitRefusal :=
  hallChannels.findSome? fun x =>
    match (p.hall x.1).languageAt x.2 with
    | none => none
    | some l =>
      if (languageChannels.filter (· < x.2)).any ((p.hall x.1).names l) then
        some { reason := .duplicate, hall := some x.1, channel := some x.2, booth := none, language := some l }
      else none

/-- Check 5 (R18). -/
def Plan.badFallback (p : Plan) : Option CommitRefusal :=
  hallChannels.findSome? fun x =>
    match (p.hall x.1).languageAt x.2, ((p.hall x.1).entry x.2).fallback with
    | some _, .language m =>
      if (p.hall x.1).carries m then none
      else some { reason := .badFallback, hall := some x.1, channel := some x.2, booth := none, language := some m }
    | _, _ => none

/-- The edge of the fallback graph that leaves a channel (R18). -/
def HallPlan.fallbackEdge (p : HallPlan) (c : Nat) : Option Nat :=
  match p.languageAt c, (p.entry c).fallback with
  | some _, .language m => p.channelOf m
  | _, _ => none

/-- The channel reached after `n` edges. -/
def HallPlan.follow (p : HallPlan) : Nat → Nat → Option Nat
  | 0, c => some c
  | n + 1, c => (p.fallbackEdge c).bind (p.follow n)

/-- The channels of the cycle that following the edges from a channel enters, empty where the chain ends. After 32 edges a
chain that has not ended goes round. -/
def HallPlan.cycleFrom (p : HallPlan) (c : Nat) : List Nat :=
  match p.follow 32 c with
  | none => []
  | some x => (List.range 32).filterMap fun n => p.follow n x

/-- Check 6 (R18): the first channel from which a cycle is entered; the location is the lowest channel on that cycle. -/
def Plan.fallbackLoop (p : Plan) : Option CommitRefusal :=
  hallChannels.findSome? fun x =>
    match (p.hall x.1).cycleFrom x.2 with
    | [] => none
    | c :: rest =>
      some { reason := .fallbackLoop, hall := some x.1, channel := some (rest.foldl min c), booth := none, language := none }

/-- Check 7 (R19): none for a consistent booth part, else the language concerned. -/
def Plan.boothFailure (p : Plan) (b : Nat) : Option Nat :=
  let x := p.booth b
  let home := p.hall x.home
  match x.a, x.b with
  | none, none => none
  | none, some m => some m
  | some _, none => languageNumbers.find? fun l => x.feeds l && !home.carries l
  | some l, some m => if m = l then some m else languageNumbers.find? fun l => x.feeds l && !home.carries l

/-- Check 7 (R19). -/
def Plan.badBooth (p : Plan) : Option CommitRefusal :=
  boothNumbers.findSome? fun b =>
    (p.boothFailure b).map fun l => { reason := .badBooth, hall := none, channel := none, booth := some b, language := some l }

/-- The booths of a home hall that name a language (R19). -/
def Plan.homeFeeders (p : Plan) (h l : Nat) : Nat := boothNumbers.countP fun b => (p.booth b).home == h && (p.booth b).feeds l

/-- Check 8 (R19). -/
def Plan.tooManyFeeders (p : Plan) : Option CommitRefusal :=
  (hallNumbers.flatMap fun h => languageNumbers.map fun l => (h, l)).findSome? fun x =>
    if 4 < p.homeFeeders x.1 x.2 then
      some { reason := .feeders, hall := some x.1, channel := none, booth := none, language := some x.2 } else none

/-- The languages a channel entry names. -/
def Entry.languages (e : Entry) : List Nat :=
  e.language.toList ++ match e.fallback with
    | .language m => [m]
    | .floor => []
    | .silence => []

/-- The languages a booth part names. -/
def BoothPlan.languages (p : BoothPlan) : List Nat :=
  p.a.toList ++ p.b.toList ++ match p.relay with
    | .language m => [m]
    | .floor => []

/-- Some field of the plan names the language, at any channel of any hall or in any booth part (R3, R20). -/
def Plan.namesLanguage (p : Plan) (l : Nat) : Bool :=
  hallChannels.any (fun x => ((p.hall x.1).entry x.2).languages.contains l)
    || boothNumbers.any (fun b => (p.booth b).languages.contains l)

/-- The lowest-numbered FREE language of a list (R17: languages are examined from L0 to L47). -/
def freeLanguage (defined : Nat → Bool) (named : List Nat) : Option Nat :=
  languageNumbers.find? fun l => named.contains l && !defined l

/-- Check 9 (R20): hall fields before booth fields. -/
def Plan.badLanguage (p : Plan) (defined : Nat → Bool) : Option CommitRefusal :=
  (hallChannels.findSome? fun x =>
    (freeLanguage defined ((p.hall x.1).entry x.2).languages).map fun l =>
      { reason := .badLanguage, hall := some x.1, channel := some x.2, booth := none, language := some l }).or
  (boothNumbers.findSome? fun b =>
    (freeLanguage defined (p.booth b).languages).map fun l =>
      { reason := .badLanguage, hall := none, channel := none, booth := some b, language := some l })

/-- Check 10 (R21): against the hall part that would be each hall's effective plan after the swap. -/
def State.commitDemand (s : State) : Option CommitRefusal :=
  hallNumbers.findSome? fun h =>
    (s.lostLanguage h (s.pls.draft.hall (s.pls.effectiveHall h))).map fun l =>
      { reason := .inUse, hall := some h, channel := none, booth := none, language := some l }

/-- A refusal without a location. -/
def CommitRefusal.plain (r : Result) : CommitRefusal := { reason := r, hall := none, channel := none, booth := none, language := none }

/-- The ten checks of R17 in order: the first that fails. -/
def State.commitCheck (s : State) (expected : Nat) : Option CommitRefusal :=
  let d := s.pls.draft
  if expected ≠ s.pls.draftVersion.toNat then some (.plain .staleDraft)
  else if s.pls.operation.isSome then some (.plain .busy)
  else d.badChannel.or (d.duplicate.or (d.badFallback.or (d.fallbackLoop.or (d.badBooth.or (d.tooManyFeeders.or
    ((d.badLanguage fun l => (s.label l).isSome).or s.commitDemand))))))

/-- Two hall parts differ in the width or in any field of any channel entry (R22). -/
def HallPlan.differs (p q : HallPlan) : Bool := p.width != q.width || languageChannels.any fun c => p.entry c != q.entry c

end Sys2Proof.Machine
end

