-- ==== Sys2Proof/Machine/Booth.lean ====
section
/-! DEFINITION. The Booth Bus Controller on its own records: directive lists, acknowledgements, misses, poll rounds, the choice of
the next transaction, segment silence (R63 to R74, R76 to R79, R82, R83). -/

namespace Sys2Proof.Machine

/-! ## Directive lists (R76 to R79) -/

/-- The console is ONLINE or SUSPECT: it is polled and directives are queued for it (R66, R79). -/
def Link.hears (l : Link) : Bool := l.state == .online || l.state == .suspect

/-- The offered head of a directive list, as a list of one or none. -/
def Link.offeredHead (l : Link) : List Directive := if l.offered then l.directives.take 1 else []

/-- The waiting directives: in the list and not the offered head (R76). -/
def Link.waiting (l : Link) : List Directive := if l.offered then l.directives.drop 1 else l.directives

def Directive.isCue (d : Directive) : Bool := d.kind == .cue

/-- A list without its oldest cue. -/
def dropOldestCue : List Directive → List Directive
  | [] => []
  | d :: rest => if d.isCue then rest else d :: dropOldestCue rest

/-- The waiting directive of a kind replaced in its place. -/
def replaceKind (d : Directive) : List Directive → List Directive
  | [] => []
  | e :: rest => if e.kind = d.kind then d :: rest else e :: replaceKind d rest

/-- A directive queued for a console (R76 to R79): discarded where the console is ABSENT or OFFLINE; a cue joins behind the
others, at the cost of the oldest waiting cue where 4 cues or 6 entries stand; another kind replaces the waiting one of its
kind (a second HANDOVER_ASKED is discarded), and otherwise takes a place of its own: a mic directive at the head, or directly
behind an offered head, any other at the tail. -/
def Link.enqueue (l : Link) (d : Directive) : Link :=
  if !l.hears then l
  else if d.isCue then
    if 4 ≤ l.directives.countP Directive.isCue || 6 ≤ l.directives.length then
      if l.waiting.any Directive.isCue then { l with directives := l.offeredHead ++ dropOldestCue l.waiting ++ [d] } else l
    else { l with directives := l.directives ++ [d] }
  else if l.waiting.any (fun e => e.kind == d.kind) then
    if d.kind = .handover then l else { l with directives := l.offeredHead ++ replaceKind d l.waiting }
  else
    let waiting := if 6 ≤ l.directives.length then dropOldestCue l.waiting else l.waiting
    if d.kind = .mic then { l with directives := l.offeredHead ++ d :: waiting }
    else { l with directives := l.offeredHead ++ waiting ++ [d] }

/-- A directive queued for a console address. -/
def State.direct (s : State) (a : Nat) (d : Directive) : State := s.setLink a ((s.link a).enqueue d)

/-- A directive queued for the ONLINE consoles of a booth, in ascending address (R79). -/
def State.directBooth (s : State) (b : Nat) (d : Directive) : State := s.each (consolesOf b) fun t a => t.direct a d

/-! ## The outcomes of a transaction (R69, R70, R73, R82) -/

/-- The link error counter rises by one and stops at 255 (R82). -/
def Link.countError (l : Link) : Link := { l with errors := min 255 (l.errors + 1) }

/-- The head directive is removed: the directive bit toggles, head offered is cleared, and an acknowledged IDENT clears ident
pending (R73). -/
def Link.removeHead (l : Link) : Link :=
  let ident := match l.directives with
    | .ident _ _ :: _ => true
    | _ => false
  { l with directives := l.directives.drop 1, directiveBit := !l.directiveBit, offered := false,
           identPending := l.identPending && !ident }

/-- The acknowledgement of a good reply, taken (R73): `carried` says whether the poll carried a directive. -/
def Link.acknowledge (l : Link) (carried : Bool) (ack : Ack) (bit : Bool) : Link :=
  if carried && bit == l.directiveBit then
    match ack with
    | .taken => l.removeHead
    | .refused => l.removeHead.countError
    | .busy => l
    | .none => l
  else l

/-- A good reply's effect on the link state (R69). -/
def Link.answered (l : Link) : Link := { l with misses := 0, state := if l.state = .suspect then .online else l.state }

/-- A miss, or a malformed reply, short of the fourth (R70). -/
def Link.miss (l : Link) : Link :=
  { l.countError with misses := l.misses + 1, state := if l.state = .online then .suspect else l.state }

/-- The link record of a console that goes OFFLINE (R71). -/
def Link.goOffline (l : Link) : Link :=
  { l with state := .offline, misses := 0, errors := 0, directives := [], offered := false, identPending := false,
           answer := .none, stored := .none }

/-- The link record of a console that comes online with IDENT queued (R72). -/
def Link.comeOnline (l : Link) (a hall : Nat) : Link :=
  { l with state := .online, misses := 0, directiveBit := false, acceptedBit := false, stored := .none, answer := .none,
           directives := [.ident a hall], offered := false, identPending := true }

/-! ## Segments (R63, R65 to R67, R83) -/

/-- The segment of a console address. -/
def segmentOf (a : Nat) : Nat := a / 48

/-- The addresses of a segment, ascending. -/
def segmentAddresses (g : Nat) : List Nat := List.range' (48 * g) 48

/-- The lowest address of a segment. -/
def lowestOf (g : Nat) : Nat := 48 * g

/-- The probe deadline of an address. -/
def Segment.probe (x : Segment) (a : Nat) : Due := x.probes.get (.fallen 0) a

/-- The end of a poll round (R83): a round counts when a poll was made in it. -/
def Segment.endRound (x : Segment) : Segment :=
  let x := if !x.polled then x
    else if x.answered then { x with silentRounds := 0 }
    else { x with silentRounds := min 3 (x.silentRounds + 1), silent := x.silent || 3 ≤ x.silentRounds + 1 }
  { x with polled := false, answered := false, ending := false }

/-- The transaction has ended; where the round position had wrapped with it, so has the round (R66). -/
def Segment.endTransaction (x : Segment) : Segment :=
  let x := { x with transaction := none }
  if x.ending then x.endRound else x

/-- A reply frame to a poll, good or malformed, counts as an answer of the round, and ends SILENT with the count at 0. While ANSWERING
the count returns to 0 at the end of the round only: of R83's two sentences the model takes the one on ANSWERING to speak of a SILENT
segment (DEDUCED, log 36). -/
def Segment.pollAnswered (x : Segment) : Segment :=
  if x.silent then { x with answered := true, silent := false, silentRounds := 0 } else { x with answered := true }

/-- A good reply to a probe ends SILENT and returns the count to 0 (R83). -/
def Segment.probeAnswered (x : Segment) : Segment := { x with silent := false, silentRounds := 0 }

/-- The console to poll next: the first that hears at or after the round position, wrapping; the flag says that it wrapped. -/
def Bbc.nextPoll (b : Bbc) (g : Nat) : Option (Nat × Bool) :=
  let live := (segmentAddresses g).filter fun a => (b.link a).hears
  match live.find? (fun a => (b.segment g).position ≤ a) with
  | some a => some (a, false)
  | none => live.head?.map fun a => (a, true)

/-- The lowest-numbered ABSENT or OFFLINE address of the segment whose probe has fallen due (R67). -/
def Bbc.nextProbe (b : Bbc) (g : Nat) : Option Nat :=
  (segmentAddresses g).find? fun a => !(b.link a).hears && ((b.segment g).probe a).isFallen

/-- A poll is sent (R66, R68): the round position becomes the following address, and a directive at the head is offered. -/
def Bbc.sendPoll (b : Bbc) (g a : Nat) (wrapped : Bool) (now : Nat) : Bbc :=
  let x := if wrapped then (b.segment g).endRound else b.segment g
  let l := b.link a
  let top := a + 1 == lowestOf g + 48
  let x := { x with position := if top then lowestOf g else a + 1, ending := top, polled := true, afterPoll := true,
                    transaction := some { console := a, probe := false, carried := !l.directives.isEmpty, started := now },
                    sent := pollFrame a l.directiveBit l.answer l.directives.head? }
  (b.setLink a { l with offered := l.offered || !l.directives.isEmpty }).setSegment g x

/-- A probe is sent (R67): the address falls due again 1000 ms after its start. -/
def Bbc.sendProbe (b : Bbc) (g a : Nat) (now : Nat) : Bbc :=
  b.setSegment g { b.segment g with
    probes := (b.segment g).probes.insert a (.at (now + 1000)), afterPoll := false, sent := probeFrame a,
    transaction := some { console := a, probe := true, carried := false, started := now } }

/-- The next transaction of a segment that has none in progress (R67): after a poll a due probe, else a poll; after a probe a
poll, else a due probe. -/
def Bbc.pumpSegment (b : Bbc) (now g : Nat) : Bbc :=
  if (b.segment g).transaction.isSome then b
  else
    let poll := (b.nextPoll g).map fun p => b.sendPoll g p.1 p.2 now
    let probe := (b.nextProbe g).map fun a => b.sendProbe g a now
    (if (b.segment g).afterPoll then probe.or poll else poll.or probe).getD b

/-- Both segments, each on its own (R63). -/
def Bbc.pump (b : Bbc) (now : Nat) : Bbc := (b.pumpSegment now 0).pumpSegment now 1

/-- The transaction in progress on a segment, when it is a poll, or when it is a probe. -/
def Bbc.inProgress (b : Bbc) (g : Nat) (probe : Bool) : Option BusTransaction :=
  (b.segment g).transaction.filter fun t => t.probe == probe

/-- A segment record changed. -/
def State.onSegment (s : State) (g : Nat) (f : Segment → Segment) : State :=
  { s with bbc := s.bbc.setSegment g (f (s.bbc.segment g)) }

/-- A link record changed. -/
def State.onLink (s : State) (a : Nat) (f : Link → Link) : State := s.setLink a (f (s.link a))

end Sys2Proof.Machine
end

