-- ==== Sys2Proof/Machine/Account.lean ====
section
/-! DEFINITION. The Account Unit: postings with their clipping and freezing, the claims of the Receiver Pool and of the Floor
Arbiter, the credit figures (R169 to R178), and the charge of a returned hire (R153). -/

namespace Sys2Proof.Machine

/-- The nearer limit of the money range (R169). -/
def clipMoney (x : Int) : Int := max (-Config.balanceLimit) (min Config.balanceLimit x)

/-- A balance posting (R169): to the balance, or to the held balance while frozen, clipped. -/
def Account.post (x : Account) (amount : Int) : Account :=
  if x.frozen then { x with heldBalance := clipMoney (x.heldBalance + amount) }
  else { x with balance := clipMoney (x.balance + amount) }

/-- A count of seconds raised, stopping at the top (R172, R178). -/
def addSeconds (n m : Nat) : Nat := min Config.top (n + m)

/-- A live-second claim (R178). -/
def Account.liveSecond (x : Account) : Account :=
  if x.frozen then { x with heldSeconds := addSeconds x.heldSeconds 1 } else { x with liveSeconds := addSeconds x.liveSeconds 1 }

/-- A service-second claim (R178). -/
def Account.serviceSecond (x : Account) : Account :=
  if x.frozen then { x with heldSeconds := addSeconds x.heldSeconds 1 }
  else { x with serviceSeconds := addSeconds x.serviceSeconds 1 }

/-- The claims of the Receiver Pool (R173 to R176). -/
def Account.reserve (x : Account) : Account := { x with unitsPending := x.unitsPending + 1 }
def Account.unreserve (x : Account) : Account := { x with unitsPending := x.unitsPending - 1 }
def Account.openHire (x : Account) (deposit : Nat) : Account :=
  { x with unitsPending := x.unitsPending - 1, unitsHeld := x.unitsHeld + 1, deposit := x.deposit + deposit }
def Account.closeHire (x : Account) (charge deposit : Nat) : Account :=
  { x.post charge with deposit := x.deposit - deposit, unitsHeld := x.unitsHeld - 1 }
def Account.lose (x : Account) (charge deposit : Nat) : Account := { x.post charge with deposit := x.deposit - deposit }
def Account.unlose (x : Account) (charge deposit : Nat) : Account := { x.post (-charge) with deposit := x.deposit + deposit }
def Account.writeOff (x : Account) : Account := { x with unitsHeld := x.unitsHeld - 1 }

/-- THAW on a frozen account (R172). -/
def Account.thaw (x : Account) : Account :=
  { x with balance := clipMoney (x.balance + x.heldBalance), heldBalance := 0, heldSeconds := 0, frozen := false,
           liveSeconds := if x.kind = .interpreter then addSeconds x.liveSeconds x.heldSeconds else x.liveSeconds,
           serviceSeconds := if x.kind = .organiser then addSeconds x.serviceSeconds x.heldSeconds else x.serviceSeconds }

/-- An account record changed. -/
def State.onAccount (s : State) (a : Nat) (f : Account → Account) : State := s.setAccount a (f (s.account a))

/-- The exposure of an account (R166): balance, held balance, and every unit held or pending at the lost fee. -/
def Account.exposure (x : Account) (lostFee : Nat) : Int :=
  x.balance + x.heldBalance + ((x.unitsHeld + x.unitsPending) * lostFee : Nat)

/-- The checks of a reserve claim, 5 to 7 of R145 (R173): none passes. -/
def State.reserveCheck (s : State) (a : Nat) : Option Result :=
  let x := s.account a
  let fee := (s.tariff x.tariff).lostFee
  if x.state ≠ .opened || x.frozen || x.kind = .interpreter then some .accountState
  else if x.unitCap ≤ x.unitsHeld + x.unitsPending then some .unitCap
  else if (x.creditLimit : Int) < x.balance + x.heldBalance + ((x.unitsHeld + x.unitsPending + 1) * fee : Nat) then some .credit
  else none

/-- The unit cap that a kind allows (R160). -/
def AccountKind.capLimit : AccountKind → Nat
  | .delegate => 4
  | .delegation => 64
  | .organiser => 64
  | .interpreter => 64

/-- The number of blocks started within some seconds: the first second starts one, 0 seconds none (R153). -/
def startedBlocks (seconds length : Nat) : Nat := (seconds + length - 1) / length

/-- The charge of a hire returned at a clock (R153). -/
def Tariff.charge (t : Tariff) (h : Hire) (clock : Nat) : Nat :=
  let hire := clock - h.issueTime
  let allowed := h.dueTime - h.issueTime
  let length := t.blockLength * 60
  min 2000000000 (min (startedBlocks (min hire allowed) length * t.blockRate) t.cap
    + startedBlocks (hire - allowed) length * t.overdueRate)

/-- A sum of clock values and durations, taken as the top above it (R149, R154). -/
def clockSum (n m : Nat) : Nat := min Config.top (n + m)

/-- The due time of a hire picked up at a clock (R149). -/
def dueTime (clock : Nat) (t : Tariff) (hireEnd : Option Nat) : Nat :=
  let due := clockSum clock (t.hireLimit * 3600)
  match hireEnd with
  | none => due
  | some e => min due e

end Sys2Proof.Machine
end

