-- ==== Sys2Proof/Machine/Rack.lean ====
section
/-! DEFINITION. The Rack Scanner on its own records: slot changes, contact job lists, the rack line and its arbitration, the scan
profile (R112 to R123, R127, R132). -/

namespace Sys2Proof.Machine

/-- The rack of a slot (R115). -/
def rackOf (slot : Nat) : Nat := slot / Config.slotsPerRack

/-! ## Slots (R119, R121) -/

/-- The change of state counts for SLOT_CHANGE: not between EMPTY and SETTLING (R121). -/
def countsAsChange (x y : SlotState) : Bool :=
  x != y && !(x == .empty && y == .settling) && !(x == .settling && y == .empty)

/-- A slot record written by an event: a counted change of state raises SLOT_CHANGE where change attention is on (R121). -/
def State.changeSlot (s : State) (k : Nat) (x : Slot) : State :=
  let old := s.slot k
  let s := s.setSlot k x
  if x.attention && countsAsChange old.state x.state then s.raise .slotChange else s

/-- A reading taken for a slot, short of what follows a settled change (R119). Answers the record and the presence that settles,
if one does. An EMPTY slot whose candidate is present is SETTLING, and a SETTLING one whose candidate is not is EMPTY (log 12). -/
def Slot.read (x : Slot) (reading : Bool) : Slot × Option Bool :=
  let next : Option Bool × Option Bool :=
    match x.presence, x.candidate with
    | .present, none => if reading then (none, none) else (some false, none)
    | .present, some _ => if reading then (none, none) else (none, some false)
    | .absent, none => if reading then (some true, none) else (none, none)
    | .absent, some _ => if reading then (none, some true) else (none, none)
    | .unsettled, none => (some reading, none)
    | .unsettled, some c => if reading = c then (none, some c) else (some reading, none)
  match next with
  | (_, some settled) => ({ x with candidate := none }, some settled)
  | (candidate, none) =>
    let state := if x.state = .empty && candidate = some true then SlotState.settling
      else if x.state = .settling && candidate ≠ some true then SlotState.empty else x.state
    ({ x with candidate := candidate, state := state }, none)

/-! ## Contact job lists (R122, R127) -/

def JobKind.isIssue : JobKind → Bool
  | .identify => false
  | .preset => true
  | .latchOpen => true
  | .latchClose => true

/-- The part of the job list that stays at the head: the job in flight (R122). -/
def Rack.inFlight (x : Rack) : List Job := if x.attempt.isSome then x.jobs.take 1 else []

/-- The waiting jobs. -/
def Rack.waiting (x : Rack) : List Job := if x.attempt.isSome then x.jobs.drop 1 else x.jobs

def Job.isTwin (j k : Job) : Bool := j.slot == k.slot && j.kind == k.kind

/-- An issue job takes its place in the waiting part: behind the last issue job, else ahead of every IDENTIFY (R122). Where an IDENTIFY
waits ahead of issue jobs (for its attempt 2), both cannot hold: the model keeps the place behind the last issue job (DESIGN CHOICE,
log 40). -/
def insertIssue (j : Job) (waiting : List Job) : List Job :=
  let identifies := (waiting.reverse.takeWhile fun k => !k.kind.isIssue).reverse
  waiting.take (waiting.length - identifies.length) ++ j :: identifies

/-- What became of a job asked for (R122). -/
inductive JobAnswer where
  | queued | waitingTwin | noPresence | twinInFlight
deriving DecidableEq, Repr

/-- A job joins its rack's list (R122). -/
def Rack.queueJob (x : Rack) (j : Job) : Rack × JobAnswer :=
  if x.inFlight.any (Job.isTwin j) then (x, .twinInFlight)
  else if x.waiting.any (Job.isTwin j) then
    ({ x with jobs := x.inFlight ++ x.waiting.map fun k =>
        if j.kind = .preset && Job.isTwin j k then { k with preset := j.preset } else k }, .waitingTwin)
  else if j.kind.isIssue then ({ x with jobs := x.inFlight ++ insertIssue j x.waiting }, .queued)
  else ({ x with jobs := x.jobs ++ [j] }, .queued)

/-- A job for a slot in this state is not queued, but for the LATCH_CLOSE of a soft reset in an EMPTY slot (R122). -/
def refusesJob (state : SlotState) (j : Job) : Bool :=
  state == .disabled || state == .settling ||
    (state == .empty && !(j.kind == .latchClose && j.origin == .reset))

/-- A contact job is queued for its slot (R122). -/
def State.queueJob (s : State) (j : Job) : State × JobAnswer :=
  if refusesJob (s.slot j.slot).state j then (s, .noPresence)
  else
    let (x, answer) := (s.rack (rackOf j.slot)).queueJob j
    (s.setRack (rackOf j.slot) x, answer)

/-- A job without arguments. -/
def Job.plain (slot : Nat) (kind : JobKind) (origin : JobOrigin) : Job :=
  { slot, kind, origin, preset := none, failed := 0 }

/-- Queue a job without arguments, whatever the answer. -/
def State.ask (s : State) (slot : Nat) (kind : JobKind) (origin : JobOrigin) : State := (s.queueJob (.plain slot kind origin)).1

/-- A slot's jobs are dropped (R127): the waiting ones leave, the one in flight is abandoned and with it the transaction. The
drop reports change nothing at the Receiver Pool (R142, R147). -/
def Rack.dropJobs (x : Rack) (slot : Nat) : Rack :=
  let inFlight := x.inFlight.any fun j => j.slot == slot
  { x with jobs := x.jobs.filter (fun j => j.slot != slot), attempt := if inFlight then none else x.attempt }

def State.dropJobs (s : State) (slot : Nat) : State := s.setRack (rackOf slot) ((s.rack (rackOf slot)).dropJobs slot)

/-- The waiting PRESET and LATCH_OPEN of origin RPM of a slot are withdrawn (R122, R151): also one that an earlier ticket on the slot left
waiting, which R151 does not speak of (DESIGN CHOICE, log 45). -/
def State.withdraw (s : State) (slot : Nat) : State :=
  let x := s.rack (rackOf slot)
  s.setRack (rackOf slot) { x with jobs := x.inFlight ++ x.waiting.filter fun j =>
    !(j.slot == slot && j.origin == .rpm && (j.kind == .preset || j.kind == .latchOpen)) }

/-! ## The scan profile (R117) -/

/-- The scan interval of a rack under a profile. -/
def Rack.interval (x : Rack) (night : Bool) : Nat := if night then x.night else x.normal

/-- The rack's next scan falls due at the start of its last scan plus its interval, or at once where that has passed; a rack not
scanned yet has been due since its reset (R113, R117). -/
def Rack.reschedule (x : Rack) (night : Bool) (now : Nat) : Rack :=
  { x with nextScan := match x.lastScan with
      | none => .fallen x.nextScan.moment
      | some m => Due.orNow now (m + x.interval night) }

/-- The scan profile takes a value; a change moves every rack's next scan (R117). -/
def State.setProfile (s : State) (night : Bool) : State :=
  if s.rks.night = night then s
  else
    { s with rks := { s.rks with night := night, racks := s.rks.racks.map Rack.initial fun _ x => x.reschedule night s.now } }

/-! ## The rack line (R114, R123) -/

/-- The rack has a job ready to start (R114, R123). -/
def Rack.ready (x : Rack) : Bool := !x.silent && !x.jobs.isEmpty && x.attempt.isNone

/-- The moment since which a START has been ready is kept. -/
def Rack.noteReady (now : Nat) (x : Rack) : Rack :=
  { x with startReady := if x.ready then some (x.startReady.getD now) else none }

def rackNumbers : List Nat := List.range Config.racks

/-- The rack of the least moment, the lower number first among equals. -/
def earliest (moment : Nat → Option Nat) : Option Nat :=
  (rackNumbers.foldl (fun best k =>
    match best, moment k with
    | b, none => b
    | none, some m => some (k, m)
    | some (j, n), some m => if m < n then some (k, m) else some (j, n)) (none : Option (Nat × Nat))).map Prod.fst

/-- The moment a deadline fell due, none while it has not. -/
def Due.fellAt : Due → Option Nat
  | .at _ => none
  | .fallen m => some m

/-- The moment the RESULT of the attempt open at a rack fell due, none while none has. -/
def Rack.resultFell (x : Rack) : Option Nat :=
  if x.jobs.isEmpty then none else (x.attempt.bind Attempt.resultDue).bind Due.fellAt

/-- A RESULT is sent (R123). -/
def Rks.sendResult (r : Rks) (k now : Nat) : Rks :=
  let x := r.rack k
  match x.attempt, x.jobs with
  | some a, j :: _ =>
    { r.setRack k { x with attempt := some { a with resultDue := none } } with
      line := some (.result k now ((a.resultDue.map Due.moment).getD now)), sent := resultFrame k j.slot }
  | _, _ => r

/-- A SCAN is sent: the next falls due at its start plus the interval in force (R114). -/
def Rks.sendScan (r : Rks) (k now : Nat) : Rks :=
  let x := r.rack k
  { r.setRack k { x with lastScan := some now, nextScan := .at (now + x.interval r.night) } with
    line := some (.scan k now), sent := scanFrame k }

/-- A START is sent: the attempt is open from its end (R123). -/
def Rks.sendStart (r : Rks) (k now : Nat) : Rks :=
  let x := r.rack k
  match x.jobs with
  | [] => r
  | j :: _ =>
    { r.setRack k { x with attempt := some { number := j.failed + 1, began := now, resultDue := none }, startReady := none } with
      line := some (.start k now), sent := startFrame k j }

/-- The next exchange of a free line (R114): a RESULT fallen due, then a SCAN fallen due, then a START; within a kind the one that
fell due first. -/
def Rks.pump (r : Rks) (now : Nat) : Rks :=
  let r := { r with racks := r.racks.map Rack.initial fun _ x => x.noteReady now }
  if r.line.isSome then r
  else
    match earliest fun k => (r.rack k).resultFell with
    | some k => r.sendResult k now
    | none =>
      match earliest fun k => (r.rack k).nextScan.fellAt with
      | some k => r.sendScan k now
      | none =>
        match earliest fun k => (r.rack k).startReady with
        | some k => r.sendStart k now
        | none => r

/-- Some rack is SILENT: the RACK_SILENT condition (R118, R131). -/
def Rks.anySilent (r : Rks) : Bool := r.racks.count (fun x => x.silent) != 0

/-- A rack goes SILENT (R118): its transaction is abandoned and the job's attempt number returns to 0. -/
def Rack.goSilent (x : Rack) : Rack :=
  { x with silent := true, attempt := none,
           jobs := if x.attempt.isSome then (x.jobs.take 1).map (fun j => { j with failed := 0 }) ++ x.jobs.drop 1 else x.jobs }

/-- A SCAN that draws no reply (R118). -/
def Rack.missScan (x : Rack) : Rack :=
  let x := { x with missed := min 3 (x.missed + 1) }
  if 3 ≤ x.missed && !x.silent then x.goSilent else x

/-- The slots of a rack, ascending. -/
def slotsOf (rack : Nat) : List Nat := List.range' (rack * Config.slotsPerRack) Config.slotsPerRack

/-- A SILENT rack comes UP: every slot's debounce restarts (R118). -/
def State.rackUp (s : State) (k : Nat) : State :=
  let s := s.setRack k { s.rack k with silent := false }
  { s with rks := { s.rks with slots := s.rks.slots.map Slot.initial fun i x => if rackOf i = k then { x with candidate := none } else x } }

end Sys2Proof.Machine
end

