-- ==== Sys2Proof/Machine/Pool.lean ====
section
/-! DEFINITION. The Receiver Pool Manager: ready queues, issue tickets, departures, identifications, returns, overdue and loss,
with the slot changes and account claims that belong to them (R129, R134 to R156, R158). -/

namespace Sys2Proof.Machine

/-! ## Records (R133, R134) -/

/-- The record that holds a serial: the serial index (R134). -/
def Rpm.bySerial (r : Rpm) (serial : Word) : Option Nat :=
  r.receivers.findKey fun x => x.state != .free && x.serial == some serial

/-- The lowest-numbered FREE record (R134). -/
def Rpm.freeRecord (r : Rpm) : Option Nat :=
  (List.range Config.receivers).find? fun k => (r.receivers.get Receiver.initial k).state == .free

/-- A receiver record changed. -/
def State.onReceiver (s : State) (r : Nat) (f : Receiver → Receiver) : State := s.setReceiver r (f (s.receiver r))

/-- The listening count of a hall and a language rises or falls by one (R156). -/
def State.listenUp (s : State) (h l : Nat) : State := s.setListening h l (s.listening h l + 1)
def State.listenDown (s : State) (h l : Nat) : State := s.setListening h l (s.listening h l - 1)

/-! ## Ready queues (R143) -/

def deskNumbers : List Nat := List.range Config.desks

/-- The desk of the DESK rack that a slot lies in, none in a STORE rack. -/
def State.deskOf (s : State) (slot : Nat) : Option Nat := (s.rack (rackOf slot)).desk

/-- A receiver joins the tail of the queue of its slot's desk, where the slot lies in a DESK rack (R139). -/
def State.joinQueue (s : State) (r slot : Nat) : State :=
  match s.deskOf slot with
  | none => s
  | some d => s.setQueue d (s.queue d ++ [r])

/-- A receiver leaves the queue it stands in, from any place. -/
def State.leaveQueue (s : State) (r : Nat) : State := s.each deskNumbers fun t d => t.setQueue d ((t.queue d).erase r)

/-- A receiver given back goes to the head of its desk's queue (R143). -/
def State.rejoinQueue (s : State) (r : Nat) : State :=
  match (s.receiver r).slot with
  | none => s
  | some slot => match s.deskOf slot with
    | none => s
    | some d => s.setQueue d (r :: s.queue d)

/-- The eligible head of a desk's queue: the first receiver whose slot is OCCUPIED (R143). -/
def State.eligibleHead (s : State) (d : Nat) : Option Nat :=
  (s.queue d).find? fun r => match (s.receiver r).slot with
    | none => false
    | some slot => (s.slot slot).state == .occupied

/-! ## Tickets (R146 to R152) -/

/-- A ticket in use changed. -/
def State.onTicket (s : State) (t : Nat) (f : Ticket → Ticket) : State :=
  match s.ticket t with
  | none => s
  | some x => s.setTicket t (f x)

def ticketNumbers : List Nat := List.range Config.tickets

/-- The lowest-numbered free ticket (R146). -/
def State.lowestFreeTicket (s : State) : Option Nat := ticketNumbers.find? fun t => (s.ticket t).isNone

/-- The ticket's PRESET is asked for on a slot (R146, R147): where it is dropped because a twin is in flight, it is owed. -/
def State.askPreset (s : State) (t slot : Nat) : State :=
  match s.ticket t with
  | none => s
  | some x =>
    let args : PresetArgs := { hall := x.hall, language := x.language, label := (s.label x.language).getD [] }
    let (s, answer) := s.queueJob { slot, kind := .preset, origin := .rpm, preset := some args, failed := 0 }
    s.onTicket t fun y => { y with step := some (if answer = .twinInFlight then .presetOwed else .presetWait) }

/-- The ticket's LATCH_OPEN is asked for on a slot (R147). -/
def State.askLatchOpen (s : State) (t slot : Nat) : State :=
  let (s, answer) := s.queueJob (.plain slot .latchOpen .rpm)
  s.onTicket t fun y => { y with step := some (if answer = .twinInFlight then .latchOwed else .latchWait) }

/-- A ticket takes a receiver (R146): it leaves its queue and becomes ISSUING, its slot becomes ISSUING where it is OCCUPIED by it
(R129), and the ticket's PRESET is asked for. -/
def State.takeReceiver (s : State) (t r : Nat) : State :=
  let s := (s.leaveQueue r).onReceiver r fun x => { x with state := .issuing, ticket := some t }
  let s := s.onTicket t fun x => { x with receiver := some r, state := .presetting, step := some .presetWait, timer := 0 }
  match (s.receiver r).slot with
  | none => s
  | some slot =>
    let x := s.slot slot
    let s := if x.state = .occupied && x.occupant = some r then s.changeSlot slot { x with state := .issuing } else s
    s.askPreset t slot

/-- A slot returns from ISSUING to OCCUPIED; in any other state it stays (R129). -/
def State.endIssuing (s : State) (slot : Nat) : State :=
  if (s.slot slot).state = .issuing then s.changeSlot slot { s.slot slot with state := .occupied } else s

/-- A ticket reaches a final state. -/
def State.endTicket (s : State) (t : Nat) (state : TicketState) (ending : TicketEnding) : State :=
  s.onTicket t fun x => { x with state := state, ending := some ending, step := none, timer := 0 }

/-- The receiver of a ticket that ended without pickup is READY again at the head of its queue, its slot OCCUPIED, and the reserve
is given back (R150, R151). -/
def State.giveBack (s : State) (account r : Nat) : State :=
  let s := (s.onReceiver r fun x => { x with state := .ready, ticket := none }).rejoinQueue r
  let s := match (s.receiver r).slot with
    | none => s
    | some slot => s.endIssuing slot
  s.onAccount account Account.unreserve

/-- The expiry of a pickup timer (R150). -/
def State.expirePickup (s : State) (t : Nat) : State :=
  match s.ticket t with
  | none => s
  | some x =>
    let s := (s.endTicket t .notTaken .timedOut).raise .ticketDone
    match x.receiver with
    | none => s
    | some r =>
      let s := s.giveBack x.account r
      match (s.receiver r).slot with
      | none => s
      | some slot => s.ask slot .latchClose .rpm

/-- CANCEL_TICKET on an open ticket (R151). -/
def State.cancelTicket (s : State) (t : Nat) (x : Ticket) : State :=
  match x.receiver with
  | none => s.endTicket t .cancelled .cancelled
  | some r =>
    let s := match (s.receiver r).slot with
      | none => s
      | some slot => (s.withdraw slot).ask slot .latchClose .rpm
    (s.giveBack x.account r).endTicket t .cancelled .cancelled

/-- A soft reset ends an open ticket (R158): its slot's return to OCCUPIED is not taken. -/
def State.abortTicket (s : State) (t : Nat) : State :=
  match s.ticket t with
  | none => s
  | some x =>
    if !x.isOpen then s
    else
      let s := s.endTicket t .aborted .reset
      match x.receiver with
      | none => s.onAccount x.account Account.unreserve
      | some r =>
        ((s.onReceiver r fun y => { y with state := .ready, ticket := none }).rejoinQueue r).onAccount x.account
          Account.unreserve

/-- The open ticket that holds a receiver, with its number. -/
def State.openTicketOf (s : State) (r : Nat) : Option (Nat × Ticket) :=
  match (s.receiver r).ticket with
  | none => none
  | some t => match s.ticket t with
    | none => none
    | some x => if x.isOpen then some (t, x) else none

/-- A completion report (R125, R147): a ticket in PRESETTING moves by its step. -/
def State.completion (s : State) (slot : Nat) (kind : JobKind) (occupant : Option Nat) : State :=
  match occupant.bind s.openTicketOf with
  | none => s
  | some (t, x) =>
    match x.state, x.step, kind with
    | .presetting, some .presetWait, .preset => s.askLatchOpen t slot
    | .presetting, some .latchWait, .latchOpen =>
      s.onTicket t fun y => { y with state := .awaitPickup, step := none, timer := s.rpm.pickupTimeout }
    | .presetting, some .presetOwed, .preset => s.askPreset t slot
    | .presetting, some .latchOwed, .latchOpen => s.askLatchOpen t slot
    | _, _, _ => s

/-- The ticket had asked for a LATCH_OPEN (R148). -/
def Ticket.askedLatch (x : Ticket) : Bool :=
  x.state == .awaitPickup || x.step == some .latchWait || x.step == some .latchOwed

/-- A unit failure of an open ticket (R148). -/
def State.unitFailure (s : State) (slot r t : Nat) (x : Ticket) : State :=
  let s := s.onReceiver r fun y => { y with state := .faulty, ticket := none }
  let s := if x.askedLatch then s.ask slot .latchClose .rpm else s
  match (if x.attempts < 3 then s.eligibleHead x.desk else none) with
  | some next => (s.onTicket t fun y => { y with attempts := y.attempts + 1 }).takeReceiver t next
  | none =>
    ((s.endTicket t .failed (if x.attempts < 3 then .noUnit else .unitFailed)).onAccount x.account
      Account.unreserve).raise .ticketDone

/-- A failure report (R142). -/
def State.failure (s : State) (slot : Nat) (occupant : Option Nat) : State :=
  match occupant with
  | none => s
  | some r =>
    match (s.receiver r).state with
    | .issuing => match s.openTicketOf r with
      | some (t, x) => s.unitFailure slot r t x
      | none => s
    | .charging => s.onReceiver r fun x => { x with state := .faulty }
    | .ready => (s.leaveQueue r).onReceiver r fun x => { x with state := .faulty }
    | _ => s

/-! ## Pickup and departure (R141, R149) -/

/-- The pickup of a receiver under an open ticket (R149). The receiver's slot is none. -/
def State.pickup (s : State) (r t : Nat) (x : Ticket) : State :=
  let tariff := s.tariff x.tariff
  let hire : Hire :=
    { account := x.account, hall := x.hall, language := x.language, tariff := x.tariff, deposit := tariff.deposit,
      issueTime := s.tau.clock, dueTime := dueTime s.tau.clock tariff (s.account x.account).hireEnd, lossCharge := none }
  let s := s.endTicket t .done .pickedUp
  let s := s.onReceiver r fun y => { y with state := .issued, ticket := none, slot := none, hire := some hire }
  let s := s.onAccount x.account fun u => u.openHire tariff.deposit
  (s.listenUp x.hall x.language).raise .ticketDone

/-- A removal without issue: the receiver becomes LOOSE, and UNEXPECTED_REMOVAL is raised in a DESK rack (R141). -/
def State.removed (s : State) (slot r : Nat) : State :=
  let s := s.onReceiver r fun x => { x with state := .loose, slot := none }
  if (s.deskOf slot).isSome then s.raise .unexpectedRemoval else s

/-- A departure (R141). -/
def State.departure (s : State) (slot r : Nat) : State :=
  match (s.receiver r).state with
  | .issuing => match s.openTicketOf r with
    | some (t, x) => s.pickup r t x
    | none => s.onReceiver r fun y => { y with slot := none }
  | .ready => (s.leaveQueue r).removed slot r
  | .charging => s.removed slot r
  | _ => s.onReceiver r fun y => { y with slot := none }

/-! ## Identification, return and late return (R138 to R140, R153, R155) -/

/-- A receiver examined in its own slot (R139). -/
def State.examine (s : State) (r slot battery : Nat) (health : Health) : State :=
  match (s.receiver r).state, health with
  | .charging, .fault => s.onReceiver r fun x => { x with state := .faulty }
  | .charging, .ok =>
    if s.rpm.threshold ≤ battery then
      (s.onReceiver r fun x => { x with state := .ready, readyTime := s.tau.clock }).joinQueue r slot
    else s
  | .ready, .fault => (s.leaveQueue r).onReceiver r fun x => { x with state := .faulty }
  | _, _ => s

/-- A receiver docked in a slot, on its own record: FAULTY on a bad health report, else CHARGING and examined (R138, R153). -/
def State.dockReceiver (s : State) (r slot battery : Nat) (health : Health) : State :=
  match health with
  | .fault => s.onReceiver r fun x => { x with slot := some slot, state := .faulty }
  | .ok => (s.onReceiver r fun x => { x with slot := some slot, state := .charging }).examine r slot battery .ok

/-- The return of a hire (R153): charge, close-hire claim, listening count, open-hire part cleared. The receiver is docked after. -/
def State.closeHire (s : State) (r : Nat) (h : Hire) : State :=
  let charge := (s.tariff h.tariff).charge h s.tau.clock
  let s := s.onAccount h.account fun u => u.closeHire charge h.deposit
  (s.listenDown h.hall h.language).onReceiver r fun x => { x with hire := none }

/-- A return in a slot (R153). -/
def State.returned (s : State) (r slot battery : Nat) (health : Health) : State :=
  match (s.receiver r).hire with
  | none => s.dockReceiver r slot battery health
  | some h => (s.closeHire r h).dockReceiver r slot battery health

/-- The reversal of a loss (R155): the unlose claim, the count, and the hire without a loss charge. -/
def State.reverseLoss (s : State) (r : Nat) (h : Hire) : State :=
  let s := s.onAccount h.account fun u => u.unlose (h.lossCharge.getD 0) h.deposit
  (s.listenUp h.hall h.language).onReceiver r fun x =>
    { x with state := .overdue, hire := some { h with lossCharge := none } }

/-- A late return (R155): the loss is reversed and the return follows at once. -/
def State.returnedLate (s : State) (r slot battery : Nat) (health : Health) : State :=
  match (s.receiver r).hire with
  | none => s.dockReceiver r slot battery health
  | some h => ((s.reverseLoss r h).returned r slot battery health).raise .lateReturn

/-- The old slot of a moved receiver: its occupant cleared, its jobs dropped, FOREIGN (R129, R140). -/
def State.vacateSlot (s : State) (slot : Nat) : State :=
  (s.dropJobs slot).changeSlot slot { s.slot slot with occupant := none, state := .foreign }

/-- A receiver found in a slot other than the one its record names (R140). -/
def State.moveReceiver (s : State) (r old slot battery : Nat) (health : Health) : State :=
  let s := s.vacateSlot old
  match (s.receiver r).state with
  | .charging => (s.onReceiver r fun x => { x with slot := some slot }).examine r slot battery health
  | .ready =>
    let s := (s.leaveQueue r).onReceiver r fun x => { x with slot := some slot }
    match health with
    | .fault => s.onReceiver r fun x => { x with state := .faulty }
    | .ok => (s.onReceiver r fun x => { x with readyTime := s.tau.clock }).joinQueue r slot
  | .issuing => match s.openTicketOf r with
    | some (t, x) => (s.pickup r t x).returned r slot battery health
    | none => s.onReceiver r fun x => { x with slot := some slot }
  | _ => s.onReceiver r fun x => { x with slot := some slot }

/-- The Receiver Pool's action on a known serial identified in a slot: the rows of R138. -/
def State.identifyKnown (s : State) (r slot battery : Nat) (health : Health) : State :=
  let s := s.onReceiver r fun x => { x with battery := some battery }
  let x := s.receiver r
  match x.slot with
  | some old =>
    if old = slot then s.examine r slot battery health else s.moveReceiver r old slot battery health
  | none =>
    match x.state with
    | .issued => s.returned r slot battery health
    | .overdue => s.returned r slot battery health
    | .lost => s.returnedLate r slot battery health
    | _ => s.dockReceiver r slot battery health

/-- An identification with its verdict applied on both sides at the same moment (R124, R138): OCCUPIED by the receiver found, or
FOREIGN with FOREIGN_UNIT raised. -/
def State.identification (s : State) (slot : Nat) (serial : Word) (battery : Nat) (health : Health) : State :=
  match s.rpm.bySerial serial with
  | none => (s.raise .foreignUnit).changeSlot slot { s.slot slot with occupant := none, state := .foreign }
  | some r =>
    let s := s.identifyKnown r slot battery health
    s.changeSlot slot { s.slot slot with occupant := some r, state := .occupied }

/-! ## The second tick (R150, R154) -/

/-- A receiver in ISSUED becomes OVERDUE when its due time is earlier than the clock (R154). -/
def State.overdueCheck (s : State) (r : Nat) : State :=
  match (s.receiver r).state, (s.receiver r).hire with
  | .issued, some h =>
    if h.dueTime < s.tau.clock then (s.onReceiver r fun x => { x with state := .overdue }).raise .hireOverdue else s
  | _, _ => s

/-- A receiver in OVERDUE becomes LOST when its due time plus the lost grace is earlier than the clock (R154, R176). -/
def State.lostCheck (s : State) (r : Nat) : State :=
  match (s.receiver r).state, (s.receiver r).hire with
  | .overdue, some h =>
    let t := s.tariff h.tariff
    if clockSum h.dueTime (t.lostGrace * 3600) < s.tau.clock then
      let charge := t.lostFee - h.deposit
      let s := s.onReceiver r fun x => { x with state := .lost, hire := some { h with lossCharge := some charge } }
      ((s.onAccount h.account fun u => u.lose charge h.deposit).listenDown h.hall h.language).raise .hireLost
    else s
  | _, _ => s

/-- The pickup timer of a ticket in AWAIT_PICKUP at a second tick (R150). -/
def State.pickupTick (s : State) (t : Nat) : State :=
  match s.ticket t with
  | none => s
  | some x =>
    if x.state ≠ .awaitPickup then s
    else if x.timer ≤ 1 then s.expirePickup t
    else s.setTicket t { x with timer := x.timer - 1 }

/-- The Receiver Pool's work at a second tick: the timers, then the due processing in ascending record number. -/
def State.poolTick (s : State) : State :=
  let s := s.each ticketNumbers State.pickupTick
  s.each s.rpm.receivers.keys fun t r => (t.overdueCheck r).lostCheck r

end Sys2Proof.Machine
end

