-- ==== Sys2Proof/Machine/Contact.lean ====
section
/-! DEFINITION. Where the Rack Scanner and the Receiver Pool meet: settled presence and the wake, the readings of a scan, the
outcomes of contact jobs, the charge poll, and the soft reset of the racks (R118 to R128, R132). -/

namespace Sys2Proof.Machine

/-! ## Presence (R119 to R121) -/

/-- A settled change in a slot whose wake is on is a wake while the profile is NIGHT (R121). -/
def State.wakeUp (s : State) (wake : Bool) : State :=
  if wake && s.rks.night then (s.setProfile false).raise .wake else s

/-- A slot's presence settles PRESENT (R120): IDENT, with an IDENTIFY of origin ARRIVAL. An occupant stays. -/
def State.settlePresent (s : State) (k : Nat) (x : Slot) : State :=
  ((s.changeSlot k { x with presence := .present, state := .ident }).ask k .identify .arrival).wakeUp x.wake

/-- A slot's presence settles ABSENT (R120): EMPTY with its latch CLOSED, the occupant's departure, then the drop of its jobs. -/
def State.settleAbsent (s : State) (k : Nat) (x : Slot) : State :=
  let s := s.changeSlot k { x with presence := .absent, latch := .closed, occupant := none, state := .empty }
  let s := match x.occupant with
    | none => s
    | some r => s.departure k r
  (s.dropJobs k).wakeUp x.wake

/-- One reading taken for a slot that is not DISABLED (R118, R119). -/
def State.takeReading (s : State) (k : Nat) (reading : Bool) : State :=
  if (s.slot k).state = .disabled then s
  else
    match (s.slot k).read reading with
    | (x, none) => s.setSlot k x
    | (x, some true) => s.settlePresent k x
    | (x, some false) => s.settleAbsent k x

/-- The 40 readings of a scan reply, in ascending position (R118). -/
def State.takeReadings (s : State) (rack : Nat) (readings : List Bool) : State :=
  s.each (slotsOf rack) fun t k => t.takeReading k (readings.getD (k % Config.slotsPerRack) false)

/-- A good reply to a SCAN (R118). -/
def State.scanned (s : State) (rack : Nat) (readings : List Bool) : State :=
  let s := s.setRack rack { s.rack rack with missed := 0 }
  (if (s.rack rack).silent then s.rackUp rack else s).takeReadings rack readings

/-! ## Contact jobs (R123 to R126) -/

def JobKind.isLatch : JobKind → Bool
  | .identify => false
  | .preset => false
  | .latchOpen => true
  | .latchClose => true

/-- The second failure of a job (R126): it leaves the list, the slot's other jobs are dropped, the slot becomes FAULT, and the
Receiver Pool takes the failure report. -/
def State.jobFails (s : State) (rack : Nat) (j : Job) (rest : List Job) : State :=
  let s := (s.setRack rack { s.rack rack with attempt := none, jobs := rest }).dropJobs j.slot
  let x := s.slot j.slot
  (s.changeSlot j.slot { x with state := .fault, latch := if j.kind.isLatch then .unknown else x.latch }).failure j.slot
    x.occupant

/-- A rack's attempt fails (R123): after attempt 1 the job stays at the head for attempt 2. -/
def State.attemptFails (s : State) (rack : Nat) : State :=
  let x := s.rack rack
  match x.attempt, x.jobs with
  | some a, j :: rest =>
    if a.number < 2 then s.setRack rack { x with attempt := none, jobs := { j with failed := 1 } :: rest }
    else s.jobFails rack j rest
  | _, _ => s

/-- The identity data of an IDENTIFY taken (R124): another serial than the occupant's is a departure first; an ISSUING slot with
its occupant's serial takes a reading only; otherwise an identification. -/
def State.takeIdentity (s : State) (k : Nat) (serial : Word) (battery : Nat) (health : Health) : State :=
  match (s.slot k).occupant with
  | none => s.identification k serial battery health
  | some r =>
    if (s.receiver r).serial ≠ some serial then
      ((s.setSlot k { s.slot k with occupant := none }).departure k r).identification k serial battery health
    else if (s.slot k).state = .issuing then s.onReceiver r fun x => { x with battery := some battery }
    else s.identification k serial battery health

/-- The latch that a completed job leaves (R125). -/
def JobKind.latchAfter (kind : JobKind) (x : Latch) : Latch :=
  match kind with
  | .identify => x
  | .preset => x
  | .latchOpen => .opened
  | .latchClose => .closed

/-- A PRESET or latch job ends in DONE (R125): its completion is reported where the Receiver Pool asked for it. -/
def State.jobCompletes (s : State) (j : Job) : State :=
  let x := s.slot j.slot
  let s := s.setSlot j.slot { x with latch := j.kind.latchAfter x.latch }
  if j.origin = .rpm then s.completion j.slot j.kind x.occupant else s

/-- The job in flight of a rack leaves the list with its transaction. -/
def State.removeJob (s : State) (rack : Nat) : State :=
  s.setRack rack { s.rack rack with attempt := none, jobs := (s.rack rack).jobs.drop 1 }

/-- The next RESULT of the attempt falls due 20 ms after the previous one fell due (R123). -/
def State.nextResult (s : State) (rack fellDue : Nat) : State :=
  let x := s.rack rack
  s.setRack rack { x with attempt := x.attempt.map fun a => { a with resultDue := some (Due.from s.now (fellDue + 20)) } }

/-- The outcome carries what the kind of job asks for: identity data exactly in the DONE of an IDENTIFY (9.5.6), within its values
(R192). Another is no good reply. -/
def JobKind.fits (kind : JobKind) : ResultOutcome → Bool
  | .pending => true
  | .failed => true
  | .done => kind != .identify
  | .doneIdentify _ battery _ => kind == .identify && battery ≤ 100

/-- A good RESULT reply to the attempt of the job at the head of a rack's list (R123, R124). -/
def State.resultTaken (s : State) (rack : Nat) (j : Job) (fellDue : Nat) (outcome : ResultOutcome) : State :=
  match outcome with
  | .pending => s.nextResult rack fellDue
  | .failed => s.attemptFails rack
  | .done => (s.removeJob rack).jobCompletes j
  | .doneIdentify serial battery health =>
    if serial = 0 then s.attemptFails rack else (s.removeJob rack).takeIdentity j.slot serial battery health

/-- The exchange on the rack line has ended. -/
def State.freeLine (s : State) : State := { s with rks := { s.rks with line := none } }

/-- An exchange that drew no reply (R118, R123). -/
def State.noReply (s : State) : Exchange → State
  | .scan rack _ => s.setRack rack (s.rack rack).missScan
  | .start rack _ => s.attemptFails rack
  | .result rack _ fellDue => s.nextResult rack fellDue

def Exchange.started : Exchange → Nat
  | .scan _ m => m
  | .start _ m => m
  | .result _ m _ => m

/-! ## The charge poll (R128) -/

/-- The slots the charge poll asks after: OCCUPIED by a receiver in CHARGING, ascending. -/
def State.pollSlots (s : State) : List Nat :=
  s.rks.slots.keysWhere fun x => x.state == .occupied && match x.occupant with
    | none => false
    | some r => (s.receiver r).state == .charging

/-- The poll is made. -/
def State.chargePoll (s : State) : State :=
  s.each s.pollSlots fun t k => t.ask k .identify .poll

/-- The Rack Scanner's work at a second tick. -/
def State.rackTick (s : State) : State :=
  if s.rks.pollInterval ≤ s.rks.pollCounter + 1 then { s with rks := { s.rks with pollCounter := 0 } }.chargePoll
  else { s with rks := { s.rks with pollCounter := s.rks.pollCounter + 1 } }

/-! ## The soft reset of the Rack Scanner (R132) -/

/-- A rack record under a soft reset. -/
def Rack.restart (x : Rack) (now : Nat) : Rack :=
  { x with silent := false, missed := 0, nextScan := .fallen now, jobs := [], attempt := none, startReady := none }

/-- A slot record under a soft reset. -/
def Slot.restart (x : Slot) : Slot :=
  if x.state = .disabled then x else { x with state := .empty, presence := .unsettled, candidate := none }

/-- The soft reset of the racks and slots, with the latch closures of origin RESET. -/
def State.restartRacks (s : State) : State :=
  let rks := rackNumbers.foldl (fun r k => r.setRack k ((r.rack k).restart s.now)) s.rks
  let s := { s with rks := { rks with slots := rks.slots.map Slot.initial fun _ x => x.restart, line := none, pollCounter := 0 } }
  s.each (s.rks.slots.keysWhere fun x => x.state != .disabled && x.latch != .closed) fun t k => t.ask k .latchClose .reset

end Sys2Proof.Machine
end

