-- ==== Sys2Proof/Machine/Route.lean ====
section
/-! DEFINITION. The Route Engine: desired sources, recompute notices, the pending lists, apply marks, the matrix link and its
resync, with the completion of apply operations and the beacon test that mark clearings lead to (R24 to R28, R36, R42 to R62). -/

namespace Sys2Proof.Machine

/-- The destination numbers, ascending. -/
def destinationNumbers : List Nat := List.range Config.destinations

/-! ## Desired sources (R44, R45) -/

/-- The index of a hall's channel among destinations and channel token records. -/
def busOf (h c : Nat) : Nat := h * Config.channels + c

/-- The booth that holds the channel token of (h, c), when a console of it is LIVE: the channel's feeder. -/
def State.feeder (s : State) (h c : Nat) : Option Nat :=
  match (s.token (busOf h c)).holder with
  | none => none
  | some b =>
    match (s.booth b).holder with
    | none => none
    | some a => if (s.floor a).mic = .live then some b else none

/-- The output of the channel bus that carries a language in a hall; free where none does (log 11). -/
def State.languageBus (s : State) (d h l : Nat) : Source :=
  match (s.pls.effectivePlan h).channelOf l with
  | some c => .bus (busOf h c)
  | none => .ofNumber (Config.uncarriedSource d).val

/-- The desired source of channel bus (h, c): the rows of R44 in order. -/
def State.channelSource (s : State) (h c : Nat) : Source :=
  let plan := s.pls.effectivePlan h
  let e := plan.entry c
  match (s.hall h).state with
  | .quiet => .silence
  | .tone => .tone
  | state =>
    if c = 0 then .floor (s.pls.effectiveHall h)
    else if s.pls.joinedJunior h then .bus (busOf (senior h) c)
    else if state = .floorAll then .floor h
    else if plan.width ≤ c || e.language.isNone then .silence
    else match s.feeder h c with
      | some b => .booth b
      | none =>
        match e.fallback with
        | .floor => .floor h
        | .silence => .silence
        | .language l => s.languageBus (busOf h c) h l

/-- The desired source of the relay input of a booth (R45). -/
def State.relaySource (s : State) (b : Nat) : Source :=
  let e := s.pls.boothHall b
  match (s.hall e).state with
  | .quiet => .silence
  | .tone => .tone
  | _ =>
    match (s.booth b).pick with
    | .floor => .floor e
    | .language l => s.languageBus (Config.buses + b) e l

/-- The desired source of a destination, from the records as they stand. -/
def State.desiredSource (s : State) (d : Nat) : Source :=
  if d < Config.buses then s.channelSource (d / Config.channels) (d % Config.channels) else s.relaySource (d - Config.buses)

/-- The hall a destination belongs to (R59): of a relay input, the booth's effective hall at the moment. -/
def Pls.destinationHall (p : Pls) (d : Nat) : Nat :=
  if d < Config.buses then d / Config.channels else p.boothHall (d - Config.buses)

/-! ## Marks, completion, beacons (R25, R26, R36, R42) -/

/-- The number of destinations of a hall that carry the apply mark. -/
def State.markedOf (s : State) (h : Nat) : Nat :=
  destinationNumbers.countP fun d => (s.route d).mark && s.pls.destinationHall d == h

/-- The number of destinations that carry the apply mark. -/
def Rte.marked (r : Rte) : Nat := destinationNumbers.countP fun d => (r.route d).mark

/-- The generator of a hall adopts the map of its effective plan when it differs from the announced map and no destination of
the hall carries an apply mark (R42). -/
def State.beaconTest (s : State) (h : Nat) : State :=
  let map := s.pls.beaconMap h
  if (s.hall h).announced = map || s.markedOf h ≠ 0 then s
  else s.setHall h { s.hall h with announced := map, mapVersion := (s.hall h).mapVersion + 1 }

/-- The report of an operation (R26). -/
def Operation.report (o : Operation) (e : Ending) : Report :=
  { kind := some o.kind, ending := e, version := o.version, hallsChanged := o.hallsChanged, stuck := o.stuck,
    relayResets := o.relayResets, planCuts := o.planCuts }

/-- The cause that an operation's completion raises (R26, R36). -/
def ApplyKind.cause : ApplyKind → Cause
  | .commit => .commitDone
  | .join => .hallApplied
  | .split => .hallApplied

/-- An operation completes when its mark count is 0: the register becomes IDLE, the report is written, the cause raised. -/
def State.completeApply (s : State) : State :=
  match s.pls.operation with
  | none => s
  | some o =>
    if s.pls.markCount ≠ 0 then s
    else ({ s with pls := { s.pls with operation := none, report := o.report .complete } }).raise o.kind.cause

/-- The Plan Store is told that a mark was cleared (R59): it lowers the mark count, counts a STUCK, makes the beacon test for
the destination's hall, and completes the operation at 0. -/
def State.markCleared (s : State) (d : Nat) (stuck : Bool) : State :=
  let o := s.pls.operation.map fun o => if stuck then { o with stuck := o.stuck + 1 } else o
  let s := { s with pls := { s.pls with markCount := s.pls.markCount - 1, operation := o } }
  (s.beaconTest (s.pls.destinationHall d)).completeApply

/-! ## Recompute notices (R46, R47) -/

/-- The class of a notice; an apply notice is a BULK notice that marks. -/
inductive Notice where
  | urgent | bulk | apply
deriving DecidableEq, Repr

/-- The destination leaves the list it stands in. -/
def Rte.unlist (r : Rte) (d : Nat) : Rte := { r with urgent := r.urgent.erase d, bulk := r.bulk.erase d }

/-- A destination that waits takes its place under a notice (R47). -/
def Rte.enlist (r : Rte) (n : Notice) (d : Nat) : Rte :=
  if r.urgent.contains d then r
  else match n with
    | .urgent => { r with bulk := r.bulk.erase d, urgent := r.urgent ++ [d] }
    | .bulk => if r.bulk.contains d then r else { r with bulk := r.bulk ++ [d] }
    | .apply => if r.bulk.contains d then r else { r with bulk := r.bulk ++ [d] }

/-- One destination of a notice, recomputed (R24, R47). -/
def State.recompute (n : Notice) (s : State) (d : Nat) : State :=
  let r := s.route d
  let new := s.desiredSource d
  if new = r.desired then s
  else if r.status = .stuck then s.setRoute d { r with desired := new }
  else if r.confirmed = some new then
    let x := { r with desired := new, status := .settled, mark := false }
    let t := { s with rte := (s.rte.unlist d).setRoute d x }
    if r.mark then t.markCleared d false else t
  else
    let x := { r with desired := new, status := .pending, mark := r.mark || n = .apply }
    { s with rte := (s.rte.enlist n d).setRoute d x }

/-- A recompute notice: its destinations in ascending order. -/
def State.notice (s : State) (n : Notice) (ds : List Nat) : State := s.each ds (State.recompute n)

/-- A floor notice (R101): each channel bus whose LIVE feeder differs from the one before the event, and each relay input
whose pick differs, as one URGENT notice. -/
def State.floorNotice (s before : State) : State :=
  s.notice .urgent (destinationNumbers.filter fun d =>
    if d < Config.buses then
      before.feeder (d / Config.channels) (d % Config.channels) != s.feeder (d / Config.channels) (d % Config.channels)
    else (before.booth (d - Config.buses)).pick != (s.booth (d - Config.buses)).pick)

/-- The apply notice of a commit, join or split (R24, R36): all 224 destinations, marked; the register becomes APPLYING with
the number of marks; an operation that marks nothing completes at once; then the beacon test for every hall (R42). -/
def State.applyNotice (s : State) (o : Operation) : State :=
  let s := s.notice .apply destinationNumbers
  let s := { s with pls := { s.pls with operation := some o, markCount := s.rte.marked } }
  (s.each hallNumbers State.beaconTest).completeApply

/-! ## The matrix link (R48 to R58) -/

/-- The link takes the head of URGENT, else of BULK, and forms a SET, while it is UP and free (R48, R50). -/
def Rte.pump (r : Rte) (now : Nat) : Rte :=
  if r.up && r.outstanding.isNone then
    match r.urgent ++ r.bulk with
    | [] => r
    | d :: _ =>
      let c : SetCommand :=
        { destination := d, source := (r.route d).desired, tag := r.nextTag, sends := 1, deadline := now + 20 }
      { r.setRoute d { r.route d with attempts := 1 } with
        outstanding := some c, nextTag := r.nextTag + 1, sent := setFrame c }
  else r

/-- The destination goes from its place to the tail of the list it stands in; one in no list joins BULK where `join` says so
(R51, R52). -/
def Rte.toTail (r : Rte) (d : Nat) (join : Bool) : Rte :=
  if r.urgent.contains d then { r with urgent := r.urgent.erase d ++ [d] }
  else if r.bulk.contains d || join then { r with bulk := r.bulk.erase d ++ [d] }
  else r

/-- A matching DONE (R51). -/
def State.doneTaken (s : State) (c : SetCommand) : State :=
  let d := c.destination
  let r := s.route d
  let rte := { s.rte with outstanding := none, timeouts := 0 }
  if r.desired = c.source then
    let x := { r with confirmed := some c.source, status := .settled, attempts := 0, mark := false }
    let t := { s with rte := (rte.unlist d).setRoute d x }
    if r.mark then t.markCleared d false else t
  else
    let x := { r with confirmed := some c.source, status := .pending, attempts := 0 }
    { s with rte := (rte.toTail d true).setRoute d x }

/-- The outstanding command is sent again (R50). -/
def Rte.resend (r : Rte) (c : SetCommand) (now : Nat) : Rte :=
  let c := { c with sends := c.sends + 1, deadline := now + 20 }
  { r.setRoute c.destination { r.route c.destination with attempts := (r.route c.destination).attempts + 1 } with
    outstanding := some c, sent := setFrame c }

/-- The outstanding command is dropped (R52). -/
def Rte.drop (r : Rte) (c : SetCommand) : Rte :=
  { r.setRoute c.destination { r.route c.destination with attempts := 0 } with outstanding := none }

/-- A REJECT BUSY, or a timeout that leaves the consecutive count below 4: the table of R52. -/
def Rte.retry (r : Rte) (c : SetCommand) (now : Nat) : Rte :=
  if (r.route c.destination).desired ≠ c.source then r.drop c
  else if c.sends < 4 then r.resend c now
  else (r.drop c).toTail c.destination false

/-- A matching REJECT with NO_PORT or BAD_SOURCE (R54). -/
def State.refusedByUnit (s : State) (c : SetCommand) : State :=
  let d := c.destination
  let r := s.route d
  let rte := { s.rte with outstanding := none, timeouts := 0 }
  let x := { r with status := .stuck, mark := false }
  let t := State.raise { s with rte := (rte.unlist d).setRoute d x } .routeStuck
  if r.mark then t.markCleared d true else t

/-- The link goes DOWN (R53): the command is abandoned and a PROBE is sent. -/
def Rte.goDown (r : Rte) (now : Nat) : Rte :=
  { r with up := false, outstanding := none, timeouts := 4, probeDue := now + 1000, sent := matrixProbeFrame }

/-- A destination relisted by a resync: a STUCK one only where `all` says so (R56). -/
def relisted (all : Bool) (r : Route) : Bool := all || r.status != .stuck

/-- A resync (R56). Marks and desired sources stay. -/
def Rte.resync (r : Rte) (all : Bool) : Rte :=
  let forget (r : Rte) (d : Nat) : Rte :=
    let x := r.route d
    r.setRoute d (if relisted all x then { x with confirmed := none, status := .pending, attempts := 0 }
      else { x with confirmed := none })
  { destinationNumbers.foldl forget r with
    urgent := [], bulk := destinationNumbers.filter fun d => relisted all (r.route d), outstanding := none, timeouts := 0 }

/-- The link comes UP with a resync (R53, R56, R57, R58). -/
def Rte.comeUp (r : Rte) : Rte := { r.resync false with up := true }

/-- Some destination is STUCK: the STUCK condition (R54, R61). -/
def Rte.anyStuck (r : Rte) : Bool := r.routes.count (fun x => x.status == .stuck) != 0

/-- The STUCK destinations, ascending. -/
def Rte.stuckOnes (r : Rte) : List Nat := r.routes.keysWhere fun x => x.status == .stuck

/-- One STUCK destination under MATRIX_RETRY (R55). -/
def Rte.unstick (r : Rte) (d : Nat) : Rte :=
  let x := r.route d
  if x.confirmed = some x.desired then r.setRoute d { x with status := .settled, attempts := 0 }
  else { r.setRoute d { x with status := .pending, attempts := 0 } with bulk := r.bulk ++ [d] }

/-! ## The abandonment of an operation (R28) and the restart of the Route Engine (R62) -/

/-- A soft reset during APPLYING: the register becomes IDLE, the report is written with ending ABORTED. -/
def State.abandonApply (s : State) : State :=
  match s.pls.operation with
  | none => s
  | some o => { s with pls := { s.pls with operation := none, markCount := 0, report := o.report .aborted } }

/-- Every apply mark cleared and every desired source computed anew (R62). -/
def State.recomputeAll (s : State) : State :=
  s.each destinationNumbers fun t d => t.setRoute d { t.route d with mark := false, desired := s.desiredSource d }

/-- The restart of R62: marks cleared, desired sources anew, the resync that takes the STUCK destinations too, link UP. A reset
that abandoned an operation makes the beacon test for every hall (R42). -/
def State.restartRoutes (s : State) : State :=
  let wasApplying := s.pls.operation.isSome
  let s := s.abandonApply.recomputeAll
  let s := { s with rte := { s.rte.resync true with up := true } }
  if wasApplying then s.each hallNumbers State.beaconTest else s

end Sys2Proof.Machine
end

