-- ==== Sys2Proof/Machine/Floor.lean ====
section
/-! DEFINITION. The Floor Arbiter: tokens, claims, handovers, direction, releases, relay picks, logins, and its part in the
notices of the Plan Store (R16, R23, R32, R33, R35, R39, R86 to R109). -/

namespace Sys2Proof.Machine

/-! ## Consoles (R86, R101) -/

/-- A console leaves LIVE, WAIT_CHANNEL or WAIT_BOOTH for OFF: its duty timer and flags are cleared, the reason is recorded, and
MIC_OFF with the reason is queued (R86, R101). -/
def State.goOff (s : State) (a : Nat) (reason : OffReason) : State :=
  (s.setFloor a { s.floor a with mic := .off, dutyTimer := 0, dutyWarned := false, dutyOver := false,
                                 lastOff := some reason }).direct a (.micOff reason)

/-- A console becomes LIVE and receives MIC_ON; one that is LIVE stays so (R92, R98, R101). -/
def State.goLive (s : State) (a : Nat) : State :=
  if (s.floor a).mic = .live then s else (s.setFloor a { s.floor a with mic := .live }).direct a .micOn

/-- A console becomes WAIT_CHANNEL; its duty timer and flags are those of a console that is not LIVE (R86, R92). -/
def State.goWait (s : State) (a : Nat) : State :=
  s.setFloor a { s.floor a with mic := .waitChannel, dutyTimer := 0, dutyWarned := false, dutyOver := false }

/-- A booth floor record changed. -/
def State.onBooth (s : State) (b : Nat) (f : BoothFloor → BoothFloor) : State := s.setBooth b (f (s.booth b))

/-! ## Channels (R92, R95) -/

/-- The channel token of (h, c) passes to the booth at the head of its wait list, whose token holder becomes LIVE; with an
empty list the holder becomes none (R95). `k` is the index of the record. -/
def State.passChannel (s : State) (k : Nat) : State :=
  let x := s.token k
  match x.waits with
  | [] => s.setToken k { x with holder := none }
  | b :: rest =>
    let s := s.setToken k { x with holder := some b, waits := rest }
    match (s.booth b).holder with
    | none => s
    | some a => s.goLive a

/-- A booth gives up one channel: as holder the token passes, in the wait list it leaves its place (R95). -/
def State.giveUpChannel (b : Nat) (s : State) (k : Nat) : State :=
  let x := s.token k
  if x.holder = some b then s.passChannel k
  else if x.waits.contains b then s.setToken k { x with waits := x.waits.erase b }
  else s

/-- A booth gives up every channel of its effective hall but the one excepted (R92, R94, R98). -/
def State.giveUp (s : State) (b : Nat) (except : Option Nat) : State :=
  s.each ((languageChannels.filter fun c => some c != except).map (busOf (s.pls.boothHall b))) (State.giveUpChannel b)

/-- A channel claim of kind PASS made for a booth and its token holder on a channel of its effective hall (R92); the flag says
that the claim was served, and false that the wait list is full. -/
def State.claimPass (s : State) (b a c : Nat) : State × Bool :=
  let s := s.giveUp b (some c)
  let k := busOf (s.pls.boothHall b) c
  let x := s.token k
  if x.holder = some b then (s.goLive a, true)
  else if x.waits.contains b then (s.goWait a, true)
  else if x.holder.isNone then ((s.setToken k { x with holder := some b }).goLive a, true)
  else if x.waits.length < 4 then ((s.setToken k { x with waits := x.waits ++ [b] }).goWait a, true)
  else (s, false)

/-! ## Passing the booth token (R94, R96) -/

/-- The LIVE holder is asked to hand over (R96): HANDOVER_ASKED, and the deadline where the window is not 0 and none runs. -/
def State.askLive (s : State) (b a : Nat) : State :=
  let x := s.booth b
  (if x.window ≠ 0 && x.deadline.isNone then s.setBooth b { x with deadline := some x.window } else s).direct a .handoverAsked

/-- The booth token passes (R94). The old holder is OFF already. With an empty request list the token is freed and the booth
gives up its channel. Otherwise the head takes the token and, under snoop, its switch position is the direction; without a
channel it goes OFF and the token passes again; otherwise it claims with kind PASS, a claim not served sends it OFF and the
token passes again; and where the list is still not empty in HANDOVER it is asked to hand over, at once yielding from
WAIT_CHANNEL (R96). Each pass takes a console from the list, whose length is the fuel. -/
def State.passToken (b : Nat) : Nat → State → State
  | 0, s => (s.onBooth b fun x => { x with holder := none, requests := [], deadline := none }).giveUp b none
  | fuel + 1, s =>
    match (s.booth b).requests with
    | [] => (s.onBooth b fun x => { x with holder := none, deadline := none }).giveUp b none
    | a :: rest =>
      let s := s.onBooth b fun x => { x with
        holder := some a, requests := rest, deadline := none, direction := if x.snoop then (s.floor a).switch else x.direction }
      match s.pls.boothChannel b (s.booth b).direction with
      | none => (s.goOff a .noChannel).passToken b fuel
      | some c =>
        let (s, served) := s.claimPass b a c
        if !served then (s.goOff a .channelBusy).passToken b fuel
        else if rest.isEmpty || (s.booth b).mode ≠ .handover then s
        else if (s.floor a).mic = .live then s.askLive b a
        else (s.goOff a .handover).passToken b fuel

/-- The holder of a booth's token goes OFF and the token passes (R94). -/
def State.releaseToken (s : State) (b a : Nat) (reason : OffReason) : State :=
  (s.goOff a reason).passToken b ((s.booth b).requests.length + 1)

/-- A console leaves the request list for OFF; an emptied list cancels the deadline (R96, R99). -/
def State.leaveRequests (s : State) (b a : Nat) (reason : OffReason) : State :=
  (s.goOff a reason).onBooth b fun x =>
    let rest := x.requests.erase a
    { x with requests := rest, deadline := if rest.isEmpty then none else x.deadline }

/-- A console in the floor goes OFF: a holder leaves the token, which passes, a waiting console leaves the request list, and one
that is OFF stays as it is (R99, R100, R105). -/
def State.forceOff (s : State) (a : Nat) (reason : OffReason) : State :=
  let b := boothOf a
  match (s.floor a).mic with
  | .off => s
  | .waitBooth => s.leaveRequests b a reason
  | .waitChannel => s.releaseToken b a reason
  | .live => s.releaseToken b a reason

/-! ## Requests (R90, R91, R92, R93) -/

/-- The interlock of a channel of a hall, from its effective plan (R92). -/
def Pls.interlock (p : Pls) (h c : Nat) : Interlock := ((p.effectivePlan h).entry c).interlock

/-- The request direction of a console (R90). -/
def State.requestDirection (s : State) (a : Nat) : Direction :=
  if (s.booth (boothOf a)).snoop then (s.floor a).switch else (s.booth (boothOf a)).forced

/-- The request would take the booth token: it is free, or the mode is OVERRIDE (R90). -/
def BoothFloor.takeable (x : BoothFloor) : Bool := x.holder.isNone || x.mode == .override

/-- The checks of R90 on a console that is OFF: none passes. -/
def State.requestCheck (s : State) (a : Nat) : Option Result :=
  let b := boothOf a
  let x := s.booth b
  let e := s.pls.boothHall b
  if (s.hall e).state ≠ .live then some .hallNotLive
  else if x.loginRequired && (s.floor a).login.isNone then some .notLogged
  else match s.pls.boothChannel b (s.requestDirection a) with
    | none => some .noChannel
    | some c =>
      let k := s.token (busOf e c)
      if x.mode = .exclusive && x.holder.isSome then some .boothBusy
      else if x.takeable && k.holder.isSome && k.holder ≠ some b && s.pls.interlock e c = .firstHolds
          && 4 ≤ k.waits.length && !k.waits.contains b then some .channelBusy
      else none

/-- The claim of kind REQUEST of a console that has taken its booth's token (R92): as a PASS, but under LAST_TAKES it takes the
channel from another booth, whose holder goes OFF with CHANNEL_TAKEN (R93). -/
def State.claimRequest (s : State) (b a c : Nat) : State :=
  let s := s.giveUp b (some c)
  let e := s.pls.boothHall b
  let k := busOf e c
  let x := s.token k
  match x.holder with
  | none => (s.claimPass b a c).1
  | some d =>
    if d = b || x.waits.contains b then (s.claimPass b a c).1
    else if s.pls.interlock e c = .lastTakes then
      let s := (s.setToken k { x with holder := some b }).goLive a
      match (s.booth d).holder with
      | none => s
      | some t => s.releaseToken d t .channelTaken
    else
      let (s, served) := s.claimPass b a c
      if served then s else s.releaseToken b a .channelBusy

/-- A console takes the booth token, sets the direction under snoop, and claims its booth's channel (R91). -/
def State.takeToken (s : State) (b a : Nat) : State :=
  let s := s.onBooth b fun x => { x with holder := some a, direction := if x.snoop then (s.floor a).switch else x.direction }
  match s.pls.boothChannel b (s.booth b).direction with
  | none => s.releaseToken b a .noChannel
  | some c => s.claimRequest b a c

/-- A MIC_REQUEST that passed its checks (R91). An override releases the token and cancels the deadline (log 13). -/
def State.takeRequest (s : State) (a : Nat) : State :=
  let b := boothOf a
  let x := s.booth b
  match x.holder with
  | none => s.takeToken b a
  | some t =>
    match x.mode with
    | .exclusive => s
    | .override => ((s.goOff t .override).onBooth b fun x => { x with deadline := none }).takeToken b a
    | .handover =>
      let s := (s.setFloor a { s.floor a with mic := .waitBooth }).onBooth b fun x => { x with requests := x.requests ++ [a] }
      if (s.floor t).mic = .live then s.askLive b t else s.releaseToken b t .handover

/-- A MIC_REQUEST indication (R90). -/
def State.micRequest (s : State) (a : Nat) : State × Answer :=
  if (s.floor a).mic ≠ .off then (s, .taken)
  else match s.requestCheck a with
    | some reason => (s, .refused reason)
    | none => (s.takeRequest a, .taken)

/-! ## Direction (R89, R98) -/

/-- A direction change of a booth whose holder is LIVE or WAIT_CHANNEL (R98). -/
def State.changeDirection (s : State) (b a : Nat) (d : Direction) : State :=
  let s := (s.onBooth b fun x => { x with direction := d }).giveUp b none
  match s.pls.boothChannel b d with
  | none => s.releaseToken b a .noChannel
  | some c =>
    let k := busOf (s.pls.boothHall b) c
    if (s.token k).holder.isNone then (s.setToken k { s.token k with holder := some b }).goLive a
    else s.releaseToken b a .channelTaken

/-- A DIR_A or DIR_B indication (R89). -/
def State.switchTo (s : State) (a : Nat) (d : Direction) : State :=
  let b := boothOf a
  let changed := (s.floor a).switch ≠ d
  let s := s.setFloor a { s.floor a with switch := d }
  if changed && (s.booth b).snoop && (s.booth b).holder == some a then s.changeDirection b a d else s

/-- The current direction set anew under R89 after SET_BOOTH_FLOOR (R109). -/
def State.redirect (s : State) (b : Nat) : State :=
  let x := s.booth b
  let d := if !x.snoop then x.forced else match x.holder with
    | some a => (s.floor a).switch
    | none => x.direction
  if d = x.direction then s
  else match x.holder with
    | some a => s.changeDirection b a d
    | none => s.setBooth b { x with direction := d }

/-! ## Relay picks (R102, R103) -/

/-- A pick that passed its check is taken: where it differs, RELAY_SET is queued for the booth's ONLINE consoles (R102). -/
def State.takePick (s : State) (b : Nat) (pick : Pick) : State :=
  if (s.booth b).pick = pick then s
  else (s.onBooth b fun x => { x with pick := pick }).directBooth b (.relaySet pick)

/-- The checks of R102 on a console's pick. -/
def State.pickCheck (s : State) (b : Nat) (pick : Pick) : Option Result :=
  if (s.booth b).relayLock then some .locked
  else match pick with
    | .floor => none
    | .language l => if 48 ≤ l then some .badValue else s.pls.relayCheck s.picks b pick

/-- A RELAY_PICK indication (R102). -/
def State.relayPick (s : State) (a : Nat) (slot : Option (BitVec 6)) : State × Answer :=
  let pick := match slot with
    | none => Pick.floor
    | some l => .language l.toNat
  match s.pickCheck (boothOf a) pick with
  | some reason => (s, .refused reason)
  | none => (s.takePick (boothOf a) pick, .taken)

/-- The current output language of a booth: the language of its current direction, when carried (R103). -/
def State.outputLanguage (s : State) (b : Nat) : Option Nat :=
  ((s.pls.active.booth b).language (s.booth b).direction).filter fun l => (s.pls.effectivePlan (s.pls.boothHall b)).carries l

/-! ## Cues (R80, R81) -/

/-- The consoles a cue is delivered to, in ascending address; queueing discards it for those that do not hear (R79, R81). -/
def State.cueConsoles (s : State) (sender : Nat) : CueTarget → List Nat
  | .booth t => (consolesOf t.val).filter (· != sender)
  | .relayTakers =>
    let b := boothOf sender
    match s.outputLanguage b with
    | none => []
    | some l =>
      (boothNumbers.filter fun x =>
        x != b && s.pls.boothHall x == s.pls.boothHall b && (s.booth x).pick == .language l).flatMap consolesOf

/-- A CUE_OUT indication (R80, R81). -/
def State.cueOut (s : State) (a : Nat) (target : CueTarget) (text : Text) : State × Answer :=
  if text = [] then (s, .refused .badValue)
  else
    let cut := if 8 < text.length then s.onLink a Link.countError else s
    (cut.each (cut.cueConsoles a target) fun t x => t.direct x (.cueIn (boothOf a) (text.take 8)), .taken)

/-! ## Logins (R104, R105, R177) -/

/-- The checks of a LOGIN, of the Floor Arbiter and then of the Account Unit, in the order of R104; none passes. The account
already logged in at the console is decided before this. -/
def State.loginCheck (s : State) (a account : Nat) : Option Result :=
  let x := s.account account
  if (s.floor a).login.isSome then some .loggedIn
  else if x.state ≠ .opened || x.kind ≠ .interpreter then some .accountState
  else if x.console.isSome && x.console ≠ some a then some .loggedIn
  else none

/-- A LOGIN indication (R104): recorded at the console and in the account at the same moment. -/
def State.login (s : State) (a account : Nat) : State × Answer :=
  if 512 ≤ account then (s, .refused .badValue)
  else if (s.floor a).login = some account then (s, .taken)
  else match s.loginCheck a account with
    | some reason => (s, .refused reason)
    | none =>
      ((s.setFloor a { s.floor a with login := some account }).setAccount account
        { s.account account with console := some a }, .taken)

/-- A console is logged out (R105): both sides at once; where login is required it leaves the floor. -/
def State.logout (s : State) (a : Nat) : State :=
  match (s.floor a).login with
  | none => s
  | some account =>
    let s := (s.setFloor a { s.floor a with login := none }).setAccount account { s.account account with console := none }
    if (s.booth (boothOf a)).loginRequired then s.forceOff a .logout else s

/-! ## Console loss and return (R71, R72, R100) -/

/-- The loss notice (R100). A console that is OFF already does not go OFF, so its earlier last reason stands (DEDUCED, log 39). -/
def State.lossNotice (s : State) (a : Nat) : State := (s.forceOff a .offline).logout a

/-- The join notice (R100): LOCK where the booth's effective hall is not LIVE. -/
def State.joinNotice (s : State) (a : Nat) : State :=
  if (s.hall (s.pls.boothHall (boothOf a))).state = .live then s else s.direct a .lock

/-! ## Notices of the Plan Store (R16, R23, R32, R33, R35, R39) -/

/-- Every console of a booth that is in the floor goes OFF; the request list is emptied, the booth token freed, the deadline
cancelled. Nothing is passed. -/
def State.clearBooth (s : State) (b : Nat) (reason : OffReason) : State :=
  (s.each (consolesOf b) fun t a => if (t.floor a).mic = .off then t else t.goOff a reason).onBooth b fun x =>
    { x with holder := none, requests := [], deadline := none }

/-- The channel token and the wait list of every channel of a hall are emptied; the service counters stay (R32, R35). -/
def State.emptyChannels (s : State) (h : Nat) : State :=
  s.each (languageChannels.map (busOf h)) fun t k => t.setToken k { t.token k with holder := none, waits := [] }

/-- The hall notice's work on leaving LIVE (R32), for one hall and the booths whose effective hall it is. -/
def State.leaveLive (s : State) (h : Nat) : State :=
  let bs := s.pls.boothsOf h
  let s := (s.each bs fun t b => t.clearBooth b .hallTest).emptyChannels h
  s.each bs fun t b => t.directBooth b .lock

/-- UNLOCK for the consoles of the booths whose effective hall is the hall (R33). -/
def State.enterLive (s : State) (h : Nat) : State := s.each (s.pls.boothsOf h) fun t b => t.directBooth b .unlock

/-- The join or split notice on one booth (R35, R39): switch positions and, under snoop, the direction become A; a pick that was
a language becomes FLOOR with RELAY_SET. -/
def State.joinBooth (reason : OffReason) (s : State) (b : Nat) : State :=
  let s := s.clearBooth b reason
  let s := s.each (consolesOf b) fun t a => t.setFloor a { t.floor a with switch := .a }
  let s := s.onBooth b fun x => { x with direction := if x.snoop then .a else x.direction }
  if (s.booth b).pick = .floor then s
  else (s.onBooth b fun x => { x with pick := .floor }).directBooth b (.relaySet .floor)

/-- The join or split notice (R35, R39): the booths of both home halls, then the channels of both halls. -/
def State.pairNotice (s : State) (h : Nat) (reason : OffReason) : State :=
  let s := s.each (s.pls.boothsOfPair h) (State.joinBooth reason)
  (s.emptyChannels (senior h)).emptyChannels (junior h)

/-- The booths of the pair whose pick is a language: the relay resets of a join or split (R36). -/
def State.pairResets (s : State) (h : Nat) : Nat := (s.pls.boothsOfPair h).countP fun b => (s.booth b).pick != .floor

/-- The relay recheck (R16): the booths whose pick fails R15 against one fixed state. -/
def State.invalidPicks (s : State) : List Nat :=
  boothNumbers.filter fun b => (s.pls.relayCheck s.picks b (s.booth b).pick).isSome

/-- R23: the holder of a booth is kept through the swap. `old` is the Plan Store before it. -/
def State.keepsHolder (s : State) (old : Pls) (b : Nat) : Bool :=
  let d := (s.booth b).direction
  let e := s.pls.boothHall b
  old.boothHall b == e && (old.active.booth b).language d == (s.pls.active.booth b).language d &&
    match (s.pls.active.booth b).language d with
    | none => false
    | some l => (s.pls.effectivePlan e).carries l

/-- A booth's place on a channel given up without passing: the token is left with holder none for the moment (R23). -/
def State.vacate (b : Nat) (s : State) (k : Nat) : State :=
  let x := s.token k
  if x.holder = some b then s.setToken k { x with holder := none }
  else if x.waits.contains b then s.setToken k { x with waits := x.waits.erase b } else s

/-- A booth that the plan notice cuts (R23). `old` names the hall whose channels it held. -/
def State.cutBooth (old : Pls) (s : State) (b : Nat) : State :=
  (s.clearBooth b .planCut).each (languageChannels.map (busOf (old.boothHall b))) (State.vacate b)

/-- The booths cut by the plan notice: those with a holder that is not kept (R23). -/
def State.cutBooths (s : State) (old : Pls) : List Nat :=
  boothNumbers.filter fun b => (s.booth b).holder.isSome && !s.keepsHolder old b

/-- The consoles a cut booth sends OFF (R23). -/
def State.activeConsoles (s : State) (b : Nat) : Nat := (consolesOf b).countP fun a => (s.floor a).mic != .off

/-- The channel token record that a channel of a hall starts with after the swap: the record of the channel that carried the same
language before, else an empty one (R23). -/
def State.movedToken (s : State) (old : Pls) (h c : Nat) : ChannelToken :=
  match (s.pls.effectivePlan h).languageAt c with
  | none => ChannelToken.initial
  | some l => match (old.effectivePlan h).channelOf l with
    | none => ChannelToken.initial
    | some d => s.token (busOf h d)

/-- The channel token records of every hall that is not a joined junior moved by language, all at once (R23). -/
def State.moveTokens (s : State) (old : Pls) : State :=
  s.each (hallNumbers.filter fun h => !s.pls.joinedJunior h) fun t h =>
    t.each languageChannels fun u c => u.setToken (busOf h c) (s.movedToken old h c)

/-- Each channel without a holder passes its token to the head of its wait list (R23, R95). -/
def State.fillChannels (s : State) : State :=
  s.each (hallChannels.map fun x => busOf x.1 x.2) fun t k =>
    if (t.token k).holder.isNone && !(t.token k).waits.isEmpty then t.passChannel k else t

/-- The booths whose relay default differs between the old and the new ACTIVE booth part (R23). -/
def State.newDefaults (s : State) (old : Pls) : List Nat :=
  boothNumbers.filter fun b => (old.active.booth b).relay != (s.pls.active.booth b).relay

/-- LOCK or UNLOCK for a booth whose effective hall changed between a LIVE hall and one that is not (R23). -/
def State.relock (old : Pls) (s : State) (b : Nat) : State :=
  let was := (s.hall (old.boothHall b)).state == .live
  let is := (s.hall (s.pls.boothHall b)).state == .live
  if was && !is then s.directBooth b .lock else if !was && is then s.directBooth b .unlock else s

/-- The Floor Arbiter's work on the plan notice (R23): cuts, the move of the channel token records, passing, relay defaults, the
relay recheck, RELAY_SET, LOCK and UNLOCK. Answers the plan cuts and the relay resets beside the state. -/
def State.planNotice (s : State) (old : Pls) : State × Nat × Nat :=
  let cut := s.cutBooths old
  let cuts := (cut.map s.activeConsoles).sum
  let s1 := (((s.each cut (State.cutBooth old)).moveTokens old).fillChannels)
  let s2 := s1.each (s1.newDefaults old) fun t b => t.onBooth b fun x => { x with pick := (t.pls.active.booth b).relay }
  let resets := s2.invalidPicks
  let s3 := s2.each resets fun t b => t.onBooth b fun x => { x with pick := .floor }
  let told := boothNumbers.filter fun b => (s1.booth b).pick != (s3.booth b).pick || resets.contains b
  let s4 := s3.each told fun t b => t.directBooth b (.relaySet (t.booth b).pick)
  (s4.each boothNumbers (State.relock old), cuts, resets.length)

end Sys2Proof.Machine
end

