-- ==== Sys2Proof/Machine/Settle.lean ====
section
/-! DEFINITION. What every command ends in: the links take up what has become ready (R48, R67, R114), but for the booth bus and the rack
line during reset recovery (R85, R132), and the condition faults follow their conditions (R198). And the exchange of the control port around every request (R180 to R186). -/

namespace Sys2Proof.Machine

/-! ## Conditions and settling -/

/-- The condition tied to a fault is present; an event fault has none (R198). -/
def conditionPresent (rte : Rte) (bbc : Bbc) (rks : Rks) (internal : Bool) : FaultName → Bool
  | .power => false
  | .trefLost => internal
  | .matrixDown => !rte.up
  | .stuck => rte.anyStuck
  | .segment0 => bbc.segment0.silent
  | .segment1 => bbc.segment1.silent
  | .rackSilent => rks.anySilent
  | .frame => false

/-- The condition tied to a fault is present in a state. -/
def State.condition (s : State) (f : FaultName) : Bool := conditionPresent s.rte s.bbc s.rks s.tau.internal f

/-- The condition faults (R198). -/
def conditionFaults : List FaultName := [.trefLost, .matrixDown, .stuck, .segment0, .segment1, .rackSilent]

/-- Every condition fault follows its condition. -/
def Tau.followAll (t : Tau) (present : FaultName → Bool) : Tau :=
  conditionFaults.foldl (fun t f => t.follow f (present f)) t

/-- The end of every command: the matrix link, both segments and the rack line begin what is ready while they are free, and the
fault set follows the conditions. While reset recovery is in progress the segments and the rack line begin nothing, so that a late
reply to what the reset abandoned finds no transaction and no exchange (R85, R132; DESIGN CHOICE, log 33). -/
def State.settle (s : State) : State :=
  let rte := s.rte.pump s.tau.now
  let bbc := if s.cpi.recovery.isSome then s.bbc else s.bbc.pump s.tau.now
  let rks := if s.cpi.recovery.isSome then s.rks else s.rks.pump s.tau.now
  { s with rte := rte, bbc := bbc, rks := rks, tau := s.tau.followAll (conditionPresent rte bbc rks s.tau.internal) }

/-! ## Exchanges (R180 to R184) -/

/-- An exchange answered NOT_READY: its frame is discarded, no response is delivered (R183). -/
def State.notReady (s : State) : State :=
  { s with cpi := { s.cpi with status := s.tau.statusByte true, delivered := none } }

/-- An exchange answered normally delivers the held response; the status byte is that of its beginning (R181, R182). -/
def State.deliver (s : State) : State :=
  { s with cpi := { s.cpi with status := s.tau.statusByte false, delivered := some s.cpi.held } }

/-- An exchange that begins now: NOT_READY during reset recovery, otherwise answered normally, and `act` is what follows its end. -/
def State.exchange (s : State) (act : State → State) : State :=
  if s.cpi.recovery.isSome then s.notReady else act s.deliver

/-- What the owner of a request makes of it: the state after it, the result and the body of the response. -/
abbrev Handled := State × Result × List Word

/-- A refusal that changes nothing and carries no detail. -/
def refuse (s : State) (r : Result) : Handled := (s, r, [])

/-- The response becomes the held response (R181). -/
def State.hold (s : State) (r : Response) : State := { s with cpi := { s.cpi with held := r } }

/-- A request of the host: an exchange that carries it, its execution by the owner, its response held (R181). -/
def State.serve (s : State) (code : Byte) (tag : Tag) (owner : State → Handled) : State :=
  (s.exchange fun t =>
    let answer := owner t
    answer.1.hold { result := answer.2.1, code := code, tag := tag, body := answer.2.2 }).settle

/-- An event of a partner or of a timer: its effect, then what follows at every command's end. -/
def State.event (s : State) (act : State → State) : State := (act s).settle

/-- An effect taken only where it is what the records wait for. -/
def State.when (s : State) (guard : Bool) (act : State → State) : State := if guard then act s else s

end Sys2Proof.Machine
end

