-- ==== Sys2Proof/Machine/Tick.lean ====
section
/-! DEFINITION. The second tick and each owner's share of it (R97, R106 to R108, R128, R150, R154, R193 to R195). -/

namespace Sys2Proof.Machine

/-! ## Duty timers (R106) -/

/-- The duty limit of a console's booth in seconds. -/
def State.dutySeconds (s : State) (a : Nat) : Nat := (s.booth (boothOf a)).dutyLimit * 60

/-- The duty timer after one tick of a LIVE console; what follows the top is free (log 10). -/
def State.nextDuty (s : State) (a : Nat) : Nat :=
  let n := (s.floor a).dutyTimer
  if n < Config.top then n + 1 else (Config.dutyTimerPastTop a s.tau.clock).toNat

/-- The first comparison: DUTY_WARN to the booth's ONLINE consoles, the LIVE one among them, and DUTY_DUE. -/
def State.dutyDue (s : State) (a : Nat) : State :=
  let x := s.floor a
  if s.dutySeconds a ≤ x.dutyTimer && !x.dutyWarned then
    ((s.setFloor a { x with dutyWarned := true }).directBooth (boothOf a) (.dutyWarn x.dutyTimer)).raise .dutyDue
  else s

/-- The second comparison: DUTY_OVER. -/
def State.dutyExceeded (s : State) (a : Nat) : State :=
  let x := s.floor a
  if s.dutySeconds a + 300 ≤ x.dutyTimer && !x.dutyOver then
    (s.setFloor a { x with dutyOver := true }).raise .dutyOver
  else s

/-- The duty timer's share of a tick at a LIVE console. -/
def State.dutyShare (s : State) (a : Nat) : State :=
  ((s.setFloor a { s.floor a with dutyTimer := s.nextDuty a }).dutyDue a).dutyExceeded a

/-! ## Accrual claims (R107, R108) -/

/-- The live-second claim of a LIVE console with a login. -/
def State.liveShare (s : State) (a : Nat) : State :=
  match (s.floor a).login with
  | none => s
  | some account => s.onAccount account Account.liveSecond

/-- The organiser of a hall when it is present and OPEN. -/
def State.openOrganiser (s : State) (h : Nat) : Option Nat :=
  (s.hall h).organiser.filter fun a => (s.account a).state == .opened

/-- The service second of a channel with a LIVE feeder: counter, service-second claim, and at 60 the service minute claim. `k` is
the index of the channel token record. -/
def State.serviceShare (s : State) (k : Nat) : State :=
  let h := k / Config.channels
  let count := (s.token k).service + 1
  let s := s.setToken k { s.token k with service := if 60 ≤ count then 0 else count }
  match s.openOrganiser h with
  | none => s
  | some a =>
    let s := s.onAccount a Account.serviceSecond
    if 60 ≤ count then s.onAccount a fun x => x.post ((s.tariff (s.hall h).tariff).minuteRate : Nat) else s

/-! ## Handover deadlines (R97) -/

/-- A handover deadline expires: the holder goes OFF and the token passes. -/
def State.expireHandover (s : State) (b : Nat) : State :=
  match (s.booth b).holder with
  | none => s.onBooth b fun x => { x with deadline := none }
  | some a => s.releaseToken b a .handover

/-- The handover deadline's share of a tick at a booth. -/
def State.deadlineShare (s : State) (b : Nat) : State :=
  match (s.booth b).deadline with
  | none => s
  | some n => if n ≤ 1 then s.expireHandover b else s.onBooth b fun x => { x with deadline := some (n - 1) }

/-! ## The owners' work (R195) -/

/-- The LIVE consoles, ascending. -/
def State.liveConsoles (s : State) : List Nat := s.fla.consoles.keysWhere fun x => x.mic == .live

/-- The channels with a LIVE feeder, as indexes of channel token records, ascending. -/
def State.liveChannels (s : State) : List Nat :=
  s.fla.tokens.keys.filter fun k => (s.feeder (k / Config.channels) (k % Config.channels)).isSome

/-- The Floor Arbiter's work at a tick: the consoles and channels LIVE when it is taken, then the deadlines, and one floor notice. The
spec gives the order neither of these nor of the booths whose deadlines expire at one tick, which decides who gets a contested channel
(R97): the model takes the booths in ascending number (DESIGN CHOICE, log 38). -/
def State.floorTick (s : State) : State :=
  let t := s.each s.liveConsoles fun t a => (t.dutyShare a).liveShare a
  let t := t.each s.liveChannels State.serviceShare
  (t.each boothNumbers State.deadlineShare).floorNotice s

/-- The clock raised by one, staying at its top (R193). -/
def Tau.advance (t : Tau) : Tau := { t with clock := min Config.top (t.clock + 1) }

/-- A second tick (R195). -/
def State.tick (s : State) : State := (({ s with tau := s.tau.advance }.floorTick).poolTick).rackTick

/-! ## The sources of ticks (R194) -/

/-- The watch starts afresh. -/
def Tau.startWatch (t : Tau) : Tau := { t with watch := some (t.now + 1500) }

/-- A pulse: the tick source is TREF, the internal ticks stop, the watch starts afresh. -/
def Tau.pulse (t : Tau) : Tau := { t with internal := false, nextInternal := none }.startWatch

/-- The watch runs out: the tick source is INTERNAL and internal ticks follow every 1000 ms. -/
def Tau.loseTref (t : Tau) : Tau := { t with internal := true, watch := none, nextInternal := some (t.now + 1000) }

end Sys2Proof.Machine
end

