-- ==== Sys2Proof/Machine/Reset.lean ====
section
/-! DEFINITION. The three resets (R28, R62, R85, R111, R132, R158, R179, R184, R200). -/

namespace Sys2Proof.Machine

/-- A booth floor record under a soft reset (R87, R111). -/
def BoothFloor.restart (x : BoothFloor) : BoothFloor :=
  { x with holder := none, requests := [], deadline := none, direction := if x.snoop then .a else x.forced }

/-- The runtime state of the Floor Arbiter (R111). -/
def Fla.restart (f : Fla) : Fla :=
  { consoles := Table.empty, booths := f.booths.map BoothFloor.initial fun _ x => x.restart, tokens := Table.empty }

/-- Every logged console is cleared (R111, R179). -/
def Acu.clearLogins (u : Acu) : Acu := { u with accounts := u.accounts.map Account.initial fun _ x => { x with console := none } }

/-- Every open ticket ends, in ascending number (R158). -/
def State.abortTickets (s : State) : State := s.each ticketNumbers State.abortTicket

/-- The recovery that follows a RESET request (R184). -/
def resetRecovery (tag : Tag) (startsWatch : Bool) (now : Nat) : Recovery :=
  { code := 0x96, tag := tag, startsWatch := startsWatch, ends := now + 2 }

/-- The soft reset (R200): links and runtime floor state restart, everything else is kept. -/
def State.softReset (s : State) (tag : Tag) : State :=
  let s := { s with bbc := Bbc.reset, fla := s.fla.restart, acu := s.acu.clearLogins }
  let s := s.restartRoutes.restartRacks.abortTickets
  { s with cpi := { s.cpi with cursor := none, recovery := some (resetRecovery tag false s.now) },
           tau := { s.tau with causes := Cause.resetSeen.bit } }

/-- RESET with scope ALL (R200): every table at its reset content, an empty fault set, the port in recovery (R184). The part's own
timebase and the commands waiting go on. -/
def State.fullReset (s : State) (tag : Tag) : State :=
  { State.reset with
    cpi := { s.cpi with window := 0, cursor := none, recovery := some (resetRecovery tag true s.now) },
    tau := { Tau.reset with faults := 0, now := s.now },
    pending := s.pending }

/-- A hard reset (R200): the machine of State.reset; the commands waiting are outside the part. -/
def State.hardReset (s : State) : State := { State.reset with pending := s.pending }

/-- The end of reset recovery (R184, R194). -/
def State.endRecovery (s : State) (r : Recovery) : State :=
  let s := s.reach r.ends
  let s := { s with cpi := { s.cpi with held := Response.resetSeen r.code r.tag, recovery := none } }
  if r.startsWatch then { s with tau := s.tau.startWatch } else s

end Sys2Proof.Machine
end

