-- ==== Sys2Proof/Machine/ExecAccount.lean ====
section
/-! DEFINITION. The requests of the chapter Accounts, Tariffs and Settlement (R161 to R172). -/

namespace Sys2Proof.Machine

/-! ## Settings (R161, R162) -/

/-- The settable fields of an account, within their values but for the cap of the kind. -/
structure AccountSettings where
  name : Text
  tariff : Nat
  creditLimit : Nat
  unitCap : Nat
  hireEnd : Option Nat
  preference : Option Nat
deriving DecidableEq, Repr

/-- The settings given by the body words after the account (and the kind); the cap is measured against a kind (R160, R161). -/
def accountSettings (kind : AccountKind) (name1 name2 tariff credit cap hireEndPresent hireEnd preference : Word) :
    Option AccountSettings :=
  match nameField name1 name2, below Config.tariffs tariff, within 0 100000000 credit, within 0 kind.capLimit cap,
      optClock hireEndPresent hireEnd, optBelow Config.languages preference with
  | some n, some t, some c, some u, some e, some l =>
    some { name := n, tariff := t, creditLimit := c, unitCap := u, hireEnd := e, preference := l }
  | _, _, _, _, _, _ => none

/-- The settings written into an account. -/
def Account.apply (x : Account) (f : AccountSettings) : Account :=
  { x with name := some f.name, tariff := f.tariff, creditLimit := f.creditLimit, unitCap := f.unitCap, hireEnd := f.hireEnd,
           preference := f.preference }

/-- The preference names a FREE language. -/
def State.freePreference (s : State) (f : AccountSettings) : Bool :=
  match f.preference with
  | none => false
  | some l => (s.label l).isNone

/-- OPEN_ACCOUNT on fields within their values (R161). -/
def State.openChecked (s : State) (a : Nat) (kind : AccountKind) (f : AccountSettings) : Handled :=
  if (s.account a).state ≠ .free then refuse s .badState
  else if s.freePreference f then refuse s .badLanguage
  else (s.setAccount a ({ Account.initial with state := .opened, kind := kind }.apply f), .ok, [])

/-- OPEN_ACCOUNT by its owner (R161). -/
def State.openAccount (account kind name1 name2 tariff credit cap hireEndPresent hireEnd preference : Word) (s : State) :
    Handled :=
  match below Config.accounts account, kindField kind with
  | some a, some k =>
    match accountSettings k name1 name2 tariff credit cap hireEndPresent hireEnd preference with
    | none => refuse s .badValue
    | some f => s.openChecked a k f
  | _, _ => refuse s .badValue

/-- The account is OPEN or SUSPENDED. -/
def Account.isActive (x : Account) : Bool := x.state == .opened || x.state == .suspended

/-- SET_ACCOUNT on fields within their values (R162). -/
def State.setChecked (s : State) (a : Nat) (f : AccountSettings) : Handled :=
  let x := s.account a
  if !x.isActive then refuse s .badState
  else if s.freePreference f then refuse s .badLanguage
  else if f.unitCap < x.unitsHeld + x.unitsPending then refuse s .unitCap
  else (s.setAccount a (x.apply f), .ok, [])

/-- SET_ACCOUNT by its owner (R162): the cap is measured against the account's kind. -/
def State.setAccountRecord (account name1 name2 tariff credit cap hireEndPresent hireEnd preference : Word) (s : State) :
    Handled :=
  match below Config.accounts account with
  | none => refuse s .badValue
  | some a =>
    match accountSettings (s.account a).kind name1 name2 tariff credit cap hireEndPresent hireEnd preference with
    | none => refuse s .badValue
    | some f => s.setChecked a f

/-! ## The life of an account (R163 to R165) -/

/-- The owner of a request that names an account: BAD_VALUE above 511. -/
def State.withAccount (s : State) (account : Word) (owner : Nat → Handled) : Handled :=
  match below Config.accounts account with
  | none => refuse s .badValue
  | some a => owner a

/-- SUSPEND by its owner (R163). -/
def State.suspendAccount (account : Word) (s : State) : Handled :=
  s.withAccount account fun a =>
    if (s.account a).state ≠ .opened then refuse s .badState
    else (s.onAccount a fun x => { x with state := .suspended }, .ok, [])

/-- RESUME by its owner (R163). -/
def State.resumeAccount (account : Word) (s : State) : Handled :=
  s.withAccount account fun a =>
    if (s.account a).state ≠ .suspended then refuse s .badState
    else (s.onAccount a fun x => { x with state := .opened }, .ok, [])

/-- What holds an account against CLOSE, by position in the table of R164: 0 UNITS, 1 LOGIN, 2 ORGANISER. -/
def State.accountHolder (s : State) (a : Nat) : Option Nat :=
  let x := s.account a
  if 0 < x.unitsHeld + x.unitsPending then some 0
  else if x.console.isSome then some 1
  else if hallNumbers.any fun h => (s.hall h).organiser == some a then some 2
  else none

/-- CLOSE by its owner (R164). -/
def State.closeAccount (account : Word) (s : State) : Handled :=
  s.withAccount account fun a =>
    if !(s.account a).isActive then refuse s .badState
    else match s.accountHolder a with
      | some k => (s, .inUse, [natWord k])
      | none => (s.onAccount a fun x => { x with state := .closed }, .ok, [])

/-- RETIRE_ACCOUNT by its owner (R165). -/
def State.retireAccount (account : Word) (s : State) : Handled :=
  s.withAccount account fun a =>
    let x := s.account a
    if x.state ≠ .closed then refuse s .badState
    else if x.balance ≠ 0 || x.heldBalance ≠ 0 || x.heldSeconds ≠ 0 then refuse s .unsettled
    else (s.setAccount a Account.initial, .ok, [])

/-! ## Reading (R166) -/

/-- An account in the order of R159. -/
def Account.words (x : Account) : List Word :=
  [natWord x.state.position, x.kind.word] ++ nameWords x.name ++
    [natWord x.tariff, natWord x.creditLimit, natWord x.unitCap] ++
    presenceWords (x.hireEnd.map natWord) ++
    [optWord x.preference, moneyWord x.balance, moneyWord x.heldBalance, natWord x.deposit, natWord x.unitsHeld,
      natWord x.unitsPending, natWord x.liveSeconds, natWord x.serviceSeconds, natWord x.heldSeconds, optWord x.console,
      boolWord x.frozen]

/-- The number of open tickets that name an account. -/
def State.ticketsOf (s : State) (a : Nat) : Nat := s.rpm.tickets.count fun t => t.isOpen && t.account == a

/-- The answer of READ_ACCOUNT: the fields of R159, then exposure, credit remaining, open tickets (R166). -/
def State.accountAnswer (s : State) (a : Nat) : List Word :=
  let x := s.account a
  let exposure := x.exposure (s.tariff x.tariff).lostFee
  x.words ++ [moneyWord exposure, moneyWord (x.creditLimit - exposure), natWord (s.ticketsOf a)]

/-- READ_ACCOUNT by its owner (R166). Clear option 0 is none, 1 SECONDS. -/
def State.readAccount (account clear : Word) (s : State) : Handled :=
  match below Config.accounts account, onOff clear with
  | some a, some c =>
    (if c && (s.account a).state != .free then s.onAccount a fun x => { x with liveSeconds := 0, serviceSeconds := 0 } else s,
      .ok, s.accountAnswer a)
  | _, _ => refuse s .badValue

/-! ## Tariffs (R168) -/

/-- The nine fields of SET_TARIFF within their ranges (R167, R168). -/
def tariffOf (blockLength blockRate cap hireLimit overdueRate lostGrace deposit lostFee minuteRate : Word) : Option Tariff :=
  match within 15 240 blockLength, within 0 1000000 blockRate, within 0 1000000 cap, within 1 72 hireLimit,
      within 0 1000000 overdueRate, within 0 72 lostGrace, within 0 10000000 deposit, within 0 20000000 lostFee,
      within 0 1000000 minuteRate with
  | some l, some r, some c, some h, some o, some g, some d, some f, some m =>
    if f < d then none
    else some { blockLength := l, blockRate := r, cap := c, hireLimit := h, overdueRate := o, lostGrace := g, deposit := d,
                lostFee := f, minuteRate := m }
  | _, _, _, _, _, _, _, _, _ => none

/-- SET_TARIFF by its owner (R168). -/
def State.setTariffRecord
    (tariff blockLength blockRate cap hireLimit overdueRate lostGrace deposit lostFee minuteRate : Word) (s : State) :
    Handled :=
  match below Config.tariffs tariff,
      tariffOf blockLength blockRate cap hireLimit overdueRate lostGrace deposit lostFee minuteRate with
  | some t, some x => (s.setTariff t x, .ok, [])
  | _, _ => refuse s .badValue

/-- A tariff in the order of R167. -/
def Tariff.words (x : Tariff) : List Word :=
  [natWord x.blockLength, natWord x.blockRate, natWord x.cap, natWord x.hireLimit, natWord x.overdueRate,
    natWord x.lostGrace, natWord x.deposit, natWord x.lostFee, natWord x.minuteRate]

/-- READ_TARIFF by its owner (R168). -/
def State.readTariff (tariff : Word) (s : State) : Handled :=
  match below Config.tariffs tariff with
  | none => refuse s .badValue
  | some t => (s, .ok, (s.tariff t).words)

/-! ## Payment and freezing (R170 to R172) -/

/-- The amount of a POST_PAYMENT: not 0, within the money range (R170). -/
def paymentOf (amount : Word) : Option Int :=
  if amount.toInt = 0 || amount.toInt < -Config.balanceLimit || Config.balanceLimit < amount.toInt then none
  else some amount.toInt

/-- POST_PAYMENT by its owner (R170). -/
def State.postPayment (account amount : Word) (s : State) : Handled :=
  match below Config.accounts account, paymentOf amount with
  | some a, some m =>
    let x := s.account a
    if x.state = .free then refuse s .badState
    else if x.frozen then refuse s .accountState
    else (s.setAccount a (x.post (-m)), .ok, [moneyWord (x.post (-m)).balance])
  | _, _ => refuse s .badValue

/-- FREEZE by its owner (R171). -/
def State.freezeAccount (account : Word) (s : State) : Handled :=
  s.withAccount account fun a =>
    if !(s.account a).isActive then refuse s .badState
    else (s.onAccount a fun x => { x with frozen := true }, .ok, [])

/-- THAW by its owner (R172): on an account that is not frozen, OK with no further effect and no balance (log 25). -/
def State.thawAccount (account : Word) (s : State) : Handled :=
  s.withAccount account fun a =>
    let x := s.account a
    if x.state = .free then refuse s .badState
    else if !x.frozen then (s, .ok, [])
    else (s.setAccount a x.thaw, .ok, [moneyWord x.thaw.balance])

/-! ## The commands -/

/-- OPEN_ACCOUNT (R161). -/
def execOpenAccount (tag : Tag)
    (account kind name1 name2 tariff credit cap hireEndPresent hireEnd preference : Word) (s : State) :
    Host.Outcome State Fault Refusal :=
  .next (s.serve 0x80 tag
    (State.openAccount account kind name1 name2 tariff credit cap hireEndPresent hireEnd preference))

/-- SET_ACCOUNT (R162). -/
def execSetAccount (tag : Tag) (account name1 name2 tariff credit cap hireEndPresent hireEnd preference : Word)
    (s : State) : Host.Outcome State Fault Refusal :=
  .next (s.serve 0x81 tag
    (State.setAccountRecord account name1 name2 tariff credit cap hireEndPresent hireEnd preference))

/-- SUSPEND (R163). -/
def execSuspend (tag : Tag) (account : Word) (s : State) : Host.Outcome State Fault Refusal :=
  .next (s.serve 0x82 tag (State.suspendAccount account))

/-- RESUME (R163). -/
def execResume (tag : Tag) (account : Word) (s : State) : Host.Outcome State Fault Refusal :=
  .next (s.serve 0x83 tag (State.resumeAccount account))

/-- CLOSE (R164). -/
def execClose (tag : Tag) (account : Word) (s : State) : Host.Outcome State Fault Refusal :=
  .next (s.serve 0x84 tag (State.closeAccount account))

/-- RETIRE_ACCOUNT (R165). -/
def execRetireAccount (tag : Tag) (account : Word) (s : State) : Host.Outcome State Fault Refusal :=
  .next (s.serve 0x85 tag (State.retireAccount account))

/-- READ_ACCOUNT (R166). -/
def execReadAccount (tag : Tag) (account clear : Word) (s : State) : Host.Outcome State Fault Refusal :=
  .next (s.serve 0x86 tag (State.readAccount account clear))

/-- SET_TARIFF (R168). -/
def execSetTariff (tag : Tag)
    (tariff blockLength blockRate cap hireLimit overdueRate lostGrace deposit lostFee minuteRate : Word) (s : State) :
    Host.Outcome State Fault Refusal :=
  .next (s.serve 0x87 tag
    (State.setTariffRecord tariff blockLength blockRate cap hireLimit overdueRate lostGrace deposit lostFee minuteRate))

/-- READ_TARIFF (R168). -/
def execReadTariff (tag : Tag) (tariff : Word) (s : State) : Host.Outcome State Fault Refusal :=
  .next (s.serve 0x88 tag (State.readTariff tariff))

/-- POST_PAYMENT (R170). -/
def execPostPayment (tag : Tag) (account amount : Word) (s : State) : Host.Outcome State Fault Refusal :=
  .next (s.serve 0x89 tag (State.postPayment account amount))

/-- FREEZE (R171). -/
def execFreeze (tag : Tag) (account : Word) (s : State) : Host.Outcome State Fault Refusal :=
  .next (s.serve 0x8A tag (State.freezeAccount account))

/-- THAW (R172). -/
def execThaw (tag : Tag) (account : Word) (s : State) : Host.Outcome State Fault Refusal :=
  .next (s.serve 0x8B tag (State.thawAccount account))

end Sys2Proof.Machine
end

