-- ==== Sys2Proof/Machine/ExecBooth.lean ====
section
/-! DEFINITION. The events of the booth bus and the requests of its chapter (R63 to R85). -/

namespace Sys2Proof.Machine

/-! ## Indications (R74, R75, R99) -/

/-- A new indication handed to its owner, which acts and answers (R75). -/
def State.indicate (s : State) (a : Nat) : Indication → State × Answer
  | .quiet => (s, .none)
  | .micRequest => s.micRequest a
  | .micRelease => (s.forceOff a .released, .taken)
  | .dirA => (s.switchTo a .a, .taken)
  | .dirB => (s.switchTo a .b, .taken)
  | .relayPick slot => s.relayPick a slot
  | .cueOut target text => s.cueOut a target text
  | .login account => s.login a account.toNat
  | .logout => (s.logout a, .taken)

/-- A new indication taken (R74): the answer, the accepted bit and the stored answer follow the owner's decision. -/
def State.newIndication (s : State) (a : Nat) (bit : Bool) (i : Indication) : State :=
  let done := s.indicate a i
  done.1.onLink a fun l => { l with answer := done.2, stored := done.2, acceptedBit := bit }

/-- The indication of a good reply to a poll (R74). -/
def State.takeIndication (s : State) (a : Nat) (bit : Bool) (i : Indication) : State :=
  if i = .quiet then s.onLink a fun l => { l with answer := .none }
  else if (s.link a).identPending then s.onLink a fun l => { l with answer := .busy }
  else if bit = (s.link a).acceptedBit then s.onLink a fun l => { l with answer := l.stored }
  else s.newIndication a bit i

/-! ## Outcomes of polls and probes (R69 to R72) -/

/-- A good reply to a poll (R69). -/
def State.pollReply (s : State) (g : Nat) (t : BusTransaction) (r : Reply) : State :=
  let u := s.onSegment g fun x => x.pollAnswered.endTransaction
  let u := u.onLink t.console fun l => l.answered.acknowledge t.carried r.ack r.ackBit
  (u.takeIndication t.console r.indicationBit r.indication).floorNotice s

/-- A console goes OFFLINE (R71). -/
def State.loseConsole (s : State) (g : Nat) (t : BusTransaction) : State :=
  let s := (s.onLink t.console Link.goOffline).raise .consoleChange
  (s.lossNotice t.console).onSegment g fun x => { x with probes := x.probes.insert t.console (.at (t.started + 1000)) }

/-- A miss, or a malformed reply, to a poll (R70): the fourth takes the console OFFLINE. Where the same poll ends the third silent round,
the console goes OFFLINE first and the segment is then SILENT, also where no console is left (R83; DESIGN CHOICE, log 37). -/
def State.pollMissed (s : State) (g : Nat) (t : BusTransaction) : State :=
  let u := s.onLink t.console Link.miss
  let u := if 4 ≤ (u.link t.console).misses then u.loseConsole g t else u
  (u.onSegment g Segment.endTransaction).floorNotice s

/-- A malformed reply to a poll: a miss that counts as an answer (R69, R83). -/
def State.pollGarbled (s : State) (g : Nat) (t : BusTransaction) : State :=
  (s.onSegment g Segment.pollAnswered).pollMissed g t

/-- A good reply to a probe (R72). -/
def State.probeReply (s : State) (g : Nat) (t : BusTransaction) : State :=
  let a := t.console
  let s := s.onSegment g fun x => x.probeAnswered.endTransaction
  let s := (s.onLink a fun l => l.comeOnline a (s.pls.boothHall (boothOf a))).raise .consoleChange
  s.joinNotice a

/-- A probe that draws no reply, or a malformed one, changes no link record (R67). -/
def State.probeMissed (s : State) (g : Nat) : State := s.onSegment g Segment.endTransaction

/-- A malformed reply to the transaction in progress (R67, R69). -/
def State.garbled (s : State) (g : Nat) (t : BusTransaction) : State :=
  if t.probe then s.probeMissed g else s.pollGarbled g t

/-- The reply window of the transaction in progress ends without a reply (R67, R70). -/
def State.windowEnded (s : State) (g : Nat) (t : BusTransaction) : State :=
  let s := s.reach (t.started + 2)
  if t.probe then s.probeMissed g else s.pollMissed g t

/-- The reply passes the checks of R68 against the transaction: the polled address, valid fields. -/
def replyFits (t : BusTransaction) (r : Reply) : Bool := r.address.val == t.console && r.valid

/-- The probe of an address that is ABSENT or OFFLINE falls due (R67). -/
def State.probeFalls (s : State) (a : Nat) : State :=
  let g := segmentOf a
  let due := (s.bbc.segment g).probe a
  if (s.link a).hears || due.isFallen then s
  else (s.reach due.moment).onSegment g fun x => { x with probes := x.probes.insert a due.fall }

/-! ## Requests (R84) -/

/-- The link record in the order of R64. -/
def Link.words (l : Link) : List Word :=
  [natWord l.state.position, natWord l.misses, boolWord l.identPending, boolWord l.directiveBit, boolWord l.acceptedBit]
    ++ l.stored.words 2 ++ l.answer.words 3 ++ listWords Directive.words l.directives
    ++ [boolWord l.offered, natWord l.errors]

/-- The floor record in the order of R86. -/
def FloorRecord.words (x : FloorRecord) : List Word :=
  [x.mic.word, x.switch.word, optWord x.login, natWord x.dutyTimer, boolWord x.dutyWarned, boolWord x.dutyOver]

/-- The answer of READ_CONSOLE: link record, floor record, current direction, last reason OFF (R84, R110). -/
def State.consoleAnswer (s : State) (a : Nat) : List Word :=
  (s.link a).words ++ (s.floor a).words ++
    [(s.booth (boothOf a)).direction.word, optWord ((s.floor a).lastOff.map OffReason.position)]

/-- READ_CONSOLE by its owner (R84). -/
def State.readConsole (console clear : Word) (s : State) : Handled :=
  match below Config.consoles console, onOff clear with
  | some a, some c => (if c then s.onLink a fun l => { l with errors := 0 } else s, .ok, s.consoleAnswer a)
  | _, _ => refuse s .badValue

/-- The number of a segment's consoles in a link state. -/
def Bbc.inState (b : Bbc) (g : Nat) (x : LinkState) : Nat := (segmentAddresses g).countP fun a => (b.link a).state == x

/-- The answer of READ_SEGMENT (R84). The segment state is 0 ANSWERING, 1 SILENT. -/
def Bbc.segmentAnswer (b : Bbc) (g : Nat) : List Word :=
  let x := b.segment g
  [boolWord x.silent, natWord x.silentRounds, natWord x.position, natWord (b.inState g .absent),
    natWord (b.inState g .online), natWord (b.inState g .suspect), natWord (b.inState g .offline)]

/-- READ_SEGMENT by its owner (R84). -/
def State.readSegment (segment : Word) (s : State) : Handled :=
  match below 2 segment with
  | none => refuse s .badValue
  | some g => (s, .ok, s.bbc.segmentAnswer g)

/-! ## The commands -/

/-- BB_PROBE_DUE (R67). -/
def execBbProbeDue (console : Fin 96) (s : State) : Host.Outcome State Fault Refusal :=
  .next (s.event fun t => t.probeFalls console.val)

/-- BB_POLL_REPLY (R69): a reply that fails a check of R68 is a malformed one; without a poll in progress it is ignored (log 3). -/
def execBbPollReply (segment : Fin 2) (reply : Reply) (s : State) : Host.Outcome State Fault Refusal :=
  .next (s.event fun u => match u.bbc.inProgress segment.val false with
    | none => u
    | some t => if replyFits t reply then u.pollReply segment.val t reply else u.pollGarbled segment.val t)

/-- BB_MALFORMED_REPLY (R69, R67). -/
def execBbMalformedReply (segment : Fin 2) (s : State) : Host.Outcome State Fault Refusal :=
  .next (s.event fun u => match (u.bbc.segment segment.val).transaction with
    | none => u
    | some t => u.garbled segment.val t)

/-- BB_REPLY_WINDOW_EXPIRY (R70, R67). -/
def execBbReplyWindowExpiry (segment : Fin 2) (s : State) : Host.Outcome State Fault Refusal :=
  .next (s.event fun u => match (u.bbc.segment segment.val).transaction with
    | none => u
    | some t => u.windowEnded segment.val t)

/-- BB_PROBE_REPLY (R72): a reply that fails a check of R68 leaves the link record as it stands; without a probe in progress it is
ignored (log 3). -/
def execBbProbeReply (segment : Fin 2) (reply : Reply) (s : State) : Host.Outcome State Fault Refusal :=
  .next (s.event fun u => match u.bbc.inProgress segment.val true with
    | none => u
    | some t => if replyFits t reply then u.probeReply segment.val t else u.probeMissed segment.val)

/-- READ_CONSOLE (R84). -/
def execReadConsole (tag : Tag) (console clear : Word) (s : State) : Host.Outcome State Fault Refusal :=
  .next (s.serve 0x40 tag (State.readConsole console clear))

/-- READ_SEGMENT (R84). -/
def execReadSegment (tag : Tag) (segment : Word) (s : State) : Host.Outcome State Fault Refusal :=
  .next (s.serve 0x41 tag (State.readSegment segment))

end Sys2Proof.Machine
end

