-- ==== Sys2Proof/Machine/ExecFloor.lean ====
section
/-! DEFINITION. The requests of the chapter Microphone Floor Control (R99, R103, R109, R110). -/

namespace Sys2Proof.Machine

/-- FORCE_MIC_OFF by its owner (R99). -/
def State.forceMicOff (console : Word) (s : State) : Handled :=
  match below Config.consoles console with
  | none => refuse s .badValue
  | some a =>
    if (s.floor a).mic = .off then refuse s .notLive
    else ((s.forceOff a .forced).floorNotice s, .ok, [])

/-- SET_RELAY by its owner (R103). -/
def State.setRelay (booth pick : Word) (s : State) : Handled :=
  match below Config.booths booth, pickField pick with
  | some b, some p =>
    match s.pls.relayCheck s.picks b p with
    | some r => refuse s r
    | none => ((s.takePick b p).floorNotice s, .ok, [])
  | _, _ => refuse s .badValue

/-- The host-set fields of a booth floor record, as SET_BOOTH_FLOOR gives them (R109). -/
structure FloorSettings where
  mode : Mode
  window : Nat
  dutyLimit : Nat
  loginRequired : Bool
  snoop : Bool
  forced : Direction
  relayLock : Bool
deriving DecidableEq, Repr

/-- The seven fields replaced together; a window of 0 cancels a running deadline (R96, R109). -/
def BoothFloor.setFields (x : BoothFloor) (f : FloorSettings) : BoothFloor :=
  { x with mode := f.mode, window := f.window, dutyLimit := f.dutyLimit, loginRequired := f.loginRequired, snoop := f.snoop,
           forced := f.forced, relayLock := f.relayLock, deadline := if f.window = 0 then none else x.deadline }

/-- The seven body words of SET_BOOTH_FLOOR after the booth. -/
def settingsOf (mode window limit login snoop forced lock : Word) : Option FloorSettings :=
  match modeField mode, within 0 60 window, within 5 60 limit, onOff login, onOff snoop, directionField forced, onOff lock with
  | some m, some w, some l, some g, some n, some f, some k =>
    some { mode := m, window := w, dutyLimit := l, loginRequired := g, snoop := n, forced := f, relayLock := k }
  | _, _, _, _, _, _, _ => none

/-- SET_BOOTH_FLOOR taken (R109): the fields, then the current direction set anew, then the floor notice. -/
def State.takeSettings (s : State) (b : Nat) (f : FloorSettings) : State :=
  ((s.onBooth b fun x => x.setFields f).redirect b).floorNotice s

/-- SET_BOOTH_FLOOR by its owner (R109). -/
def State.setBoothFloor (booth mode window limit login snoop forced lock : Word) (s : State) : Handled :=
  match below Config.booths booth, settingsOf mode window limit login snoop forced lock with
  | some b, some f => (s.takeSettings b f, .ok, [])
  | _, _ => refuse s .badValue

/-- The channel a booth holds, or the channel in whose wait list it stands with its position from the head, or none (R110). -/
def State.boothPlace (s : State) (b : Nat) : List Word :=
  let h := s.pls.boothHall b
  match languageChannels.find? fun c => (s.token (busOf h c)).holder == some b with
  | some c => [natWord c, noneWord]
  | none =>
    match languageChannels.find? fun c => (s.token (busOf h c)).waits.contains b with
    | some c => [natWord c, natWord ((s.token (busOf h c)).waits.idxOf b)]
    | none => [noneWord, noneWord]

/-- The answer of READ_BOOTH: every field of R87, effective hall, channel, current output language (R110). -/
def State.boothFloorAnswer (s : State) (b : Nat) : List Word :=
  let x := s.booth b
  [x.mode.word, natWord x.window, natWord x.dutyLimit, boolWord x.loginRequired, boolWord x.snoop, x.forced.word,
    boolWord x.relayLock, x.pick.word, optWord x.holder] ++ listWords (fun a => [natWord a]) x.requests ++
    [optWord x.deadline, x.direction.word, natWord (s.pls.boothHall b)] ++ s.boothPlace b ++ [optWord (s.outputLanguage b)]

/-- READ_BOOTH by its owner (R110). -/
def State.readBooth (booth : Word) (s : State) : Handled :=
  match below Config.booths booth with
  | none => refuse s .badValue
  | some b => (s, .ok, s.boothFloorAnswer b)

/-- The answer of READ_CHANNEL: the channel token record and the LIVE console feeding the channel (R110). -/
def State.channelAnswer (s : State) (h c : Nat) : List Word :=
  let x := s.token (busOf h c)
  optWord x.holder :: (listWords (fun b => [natWord b]) x.waits ++
    [natWord x.service, optWord ((s.feeder h c).bind fun b => (s.booth b).holder)])

/-- READ_CHANNEL by its owner (R110). -/
def State.readChannel (hall channel : Word) (s : State) : Handled :=
  match hallField s.cpi.window hall, within 1 31 channel with
  | some h, some c => (s, .ok, s.channelAnswer h c)
  | _, _ => refuse s .badValue

/-! ## The commands -/

/-- FORCE_MIC_OFF (R99). -/
def execForceMicOff (tag : Tag) (console : Word) (s : State) : Host.Outcome State Fault Refusal :=
  .next (s.serve 0x50 tag (State.forceMicOff console))

/-- SET_RELAY (R103). -/
def execSetRelay (tag : Tag) (booth pick : Word) (s : State) : Host.Outcome State Fault Refusal :=
  .next (s.serve 0x51 tag (State.setRelay booth pick))

/-- SET_BOOTH_FLOOR (R109). -/
def execSetBoothFloor (tag : Tag) (booth mode window limit login snoop forced lock : Word) (s : State) :
    Host.Outcome State Fault Refusal :=
  .next (s.serve 0x52 tag (State.setBoothFloor booth mode window limit login snoop forced lock))

/-- READ_BOOTH (R110). -/
def execReadBooth (tag : Tag) (booth : Word) (s : State) : Host.Outcome State Fault Refusal :=
  .next (s.serve 0x53 tag (State.readBooth booth))

/-- READ_CHANNEL (R110). -/
def execReadChannel (tag : Tag) (hall channel : Word) (s : State) : Host.Outcome State Fault Refusal :=
  .next (s.serve 0x54 tag (State.readChannel hall channel))

end Sys2Proof.Machine
end

