-- ==== Sys2Proof/Machine/ExecPlan.lean ====
section
/-! DEFINITION. The requests of the chapter Languages and the Channel Plan, and the completion of apply operations (R1 to R28). -/

namespace Sys2Proof.Machine

/-! ## The language table (R2, R3) -/

/-- The lowest-numbered FREE slot. -/
def State.freeSlot (s : State) : Option Nat := languageNumbers.find? fun l => (s.label l).isNone

/-- A DEFINED slot holds the label. -/
def State.holdsLabel (s : State) (t : Text) : Bool := languageNumbers.any fun l => s.label l == some t

/-- DEFINE_LANGUAGE by its owner (R2). -/
def State.defineLanguage (label : Word) (s : State) : Handled :=
  match labelField label with
  | none => refuse s .badValue
  | some t =>
    if s.holdsLabel t then refuse s .duplicate
    else match s.freeSlot with
      | none => refuse s .full
      | some l => ({ s with pls := { s.pls with languages := s.pls.languages.insert l t } }, .ok, [natWord l])

/-- The kinds of holder that keep a language, by position in the table of R3: 0 PLAN, 1 PREFERENCE, 2 HIRE. -/
def State.languageHolder (s : State) (l : Nat) : Option Nat :=
  if s.pls.active.namesLanguage l || s.pls.draft.namesLanguage l then some 0
  else if s.acu.accounts.count (fun x => x.state != .free && x.preference == some l) != 0 then some 1
  else if s.rpm.receivers.count (fun x =>
      (x.state == .issued || x.state == .overdue || x.state == .lost) && x.hire.any fun h => h.language == l) != 0 then some 2
  else none

/-- RETIRE_LANGUAGE by its owner (R3). -/
def State.retireLanguage (slot : Word) (s : State) : Handled :=
  match below Config.languages slot with
  | none => refuse s .badValue
  | some l =>
    if (s.label l).isNone then refuse s .badLanguage
    else match s.languageHolder l with
      | some k => (s, .inUse, [natWord k])
      | none => ({ s with pls := { s.pls with languages := s.pls.languages.erase l } }, .ok, [])

/-! ## Editing the draft (R8 to R12) -/

/-- An edit of the draft: the plan changed, the draft version raised by one and returned (R11). A refused edit answers an empty body, the
draft version not in it (R187; DEDUCED, log 48). -/
def State.edit (s : State) (f : Plan → Plan) : Handled :=
  ({ s with pls := { s.pls with draft := f s.pls.draft, draftVersion := s.pls.draftVersion + 1 } }, .ok,
    [natWord (s.pls.draftVersion + 1).toNat])

/-- SET_WIDTH by its owner (R8); a refusal carries no draft version (log 48). -/
def State.setWidth (hall width : Word) (s : State) : Handled :=
  match hallField s.cpi.window hall, widthField width with
  | some h, some w => s.edit fun p => p.setHall h { p.hall h with width := w }
  | _, _ => refuse s .badValue

/-- SET_CHANNEL by its owner (R9); a refusal carries no draft version (log 48). -/
def State.setChannel (hall channel language fallback interlock : Word) (s : State) : Handled :=
  match hallField s.cpi.window hall, within 1 31 channel, optBelow Config.languages language, fallbackField fallback,
      interlockField interlock with
  | some h, some c, some l, some f, some i =>
    s.edit fun p => p.setHall h ((p.hall h).setEntry c { language := l, fallback := f, interlock := i })
  | _, _, _, _, _ => refuse s .badValue

/-- SET_BOOTH_PLAN by its owner (R10); a refusal carries no draft version (log 48). -/
def State.setBoothPlan (booth home a b relay : Word) (s : State) : Handled :=
  match below Config.booths booth, below Config.halls home, optBelow Config.languages a, optBelow Config.languages b,
      pickField relay with
  | some n, some h, some la, some lb, some r =>
    s.edit fun p => p.setBooth n { home := h, a := la, b := lb, relay := r }
  | _, _, _, _, _ => refuse s .badValue

/-- CLEAR_DRAFT by its owner (R12). -/
def State.clearDraft (s : State) : Handled := s.edit fun _ => s.pls.active

/-! ## Reading (R13, R27) -/

def Entry.words (e : Entry) : List Word := [optWord e.language, e.fallback.word, e.interlock.word]

def BoothPlan.words (x : BoothPlan) : List Word := [natWord x.home, optWord x.a, optWord x.b, x.relay.word]

/-- The draft version and the plan version. -/
def Pls.versions (p : Pls) : List Word := [natWord p.draftVersion.toNat, natWord p.planVersion.toNat]

/-- The answer for a hall part; the flag says whether the plan read is the ACTIVE one. -/
def Pls.hallAnswer (p : Pls) (active : Bool) (h : Nat) : List Word :=
  let x := (if active then p.active else p.draft).hall h
  natWord x.width :: ((languageChannels.flatMap fun c => (x.entry c).words) ++ p.versions
    ++ [boolWord (active && !p.joinedJunior h)])

/-- The answer for a booth part. -/
def Pls.boothAnswer (p : Pls) (active : Bool) (b : Nat) : List Word :=
  ((if active then p.active else p.draft).booth b).words ++ p.versions

/-- READ_PLAN by its owner (R13). Copy 0 is the DRAFT, 1 the ACTIVE plan. -/
def State.readPlan (copy hall booth : Word) (s : State) : Handled :=
  match onOff copy, (if hall = noneWord then some none else (hallField s.cpi.window hall).map some),
      optBelow Config.booths booth with
  | some active, some (some h), some none => (s, .ok, s.pls.hallAnswer active h)
  | some active, some none, some none => (s, .ok, s.pls.hallAnswer active s.cpi.window)
  | some active, some none, some (some b) => (s, .ok, s.pls.boothAnswer active b)
  | _, _, _ => refuse s .badValue

/-- The apply register as READ_APPLY_REPORT returns it: state, kind, mark count (R27). -/
def Pls.registerWords (p : Pls) : List Word :=
  [boolWord p.operation.isSome, optWord (p.operation.map fun o => o.kind.position), natWord p.markCount]

/-- The fields of the commit report (R26). -/
def Report.words (r : Report) : List Word :=
  [optWord (r.kind.map ApplyKind.position), r.ending.word, natWord r.version.toNat, natWord r.hallsChanged,
    natWord r.stuck, natWord r.relayResets, natWord r.planCuts]

/-- READ_APPLY_REPORT by its owner (R27). -/
def State.readApplyReport (s : State) : Handled := (s, .ok, s.pls.registerWords ++ s.pls.report.words)

/-! ## Committing (R22 to R24) -/

/-- The swap: the DRAFT becomes the ACTIVE plan, the plan version rises by one. -/
def Pls.swap (p : Pls) : Pls := { p with active := p.draft, planVersion := p.planVersion + 1 }

/-- The halls whose effective plan differs between two moments of the Plan Store (R22). -/
def hallsChanged (old new : Pls) : Nat :=
  hallNumbers.countP fun h => (old.effectivePlan h).differs (new.effectivePlan h)

/-- A commit that passed every check, taken: swap, plan notice, apply notice. -/
def State.takeCommit (s : State) : State :=
  let new := s.pls.swap
  let told := State.planNotice { s with pls := new } s.pls
  told.1.applyNotice
    { kind := .commit, version := new.planVersion, hallsChanged := hallsChanged s.pls new, stuck := 0,
      relayResets := told.2.2, planCuts := told.2.1 }

/-- COMMIT_PLAN by its owner (R17, R22). -/
def State.commitPlan (version : Word) (s : State) : Handled :=
  match s.commitCheck version.toNat with
  | some r => (s, r.reason, r.words)
  | none => (s.takeCommit, .accepted, [natWord s.pls.swap.planVersion.toNat])

/-! ## The commands -/

/-- DEFINE_LANGUAGE (R2). -/
def execDefineLanguage (tag : Tag) (label : Word) (s : State) : Host.Outcome State Fault Refusal :=
  .next (s.serve 0x10 tag (State.defineLanguage label))

/-- RETIRE_LANGUAGE (R3). -/
def execRetireLanguage (tag : Tag) (slot : Word) (s : State) : Host.Outcome State Fault Refusal :=
  .next (s.serve 0x11 tag (State.retireLanguage slot))

/-- SET_WIDTH (R8). -/
def execSetWidth (tag : Tag) (hall width : Word) (s : State) : Host.Outcome State Fault Refusal :=
  .next (s.serve 0x12 tag (State.setWidth hall width))

/-- SET_CHANNEL (R9). -/
def execSetChannel (tag : Tag) (hall channel language fallback interlock : Word) (s : State) :
    Host.Outcome State Fault Refusal :=
  .next (s.serve 0x13 tag (State.setChannel hall channel language fallback interlock))

/-- SET_BOOTH_PLAN (R10). -/
def execSetBoothPlan (tag : Tag) (booth home a b relay : Word) (s : State) : Host.Outcome State Fault Refusal :=
  .next (s.serve 0x14 tag (State.setBoothPlan booth home a b relay))

/-- CLEAR_DRAFT (R12). -/
def execClearDraft (tag : Tag) (s : State) : Host.Outcome State Fault Refusal := .next (s.serve 0x15 tag State.clearDraft)

/-- READ_PLAN (R13). -/
def execReadPlan (tag : Tag) (copy hall booth : Word) (s : State) : Host.Outcome State Fault Refusal :=
  .next (s.serve 0x16 tag (State.readPlan copy hall booth))

/-- COMMIT_PLAN (R17 to R24). -/
def execCommitPlan (tag : Tag) (version : Word) (s : State) : Host.Outcome State Fault Refusal :=
  .next (s.serve 0x17 tag (State.commitPlan version))

/-- APPLY_COMPLETE (R26): the operation in flight completes when its mark count is 0. -/
def execApplyComplete (s : State) : Host.Outcome State Fault Refusal := .next (s.event State.completeApply)

/-- READ_APPLY_REPORT (R27). -/
def execReadApplyReport (tag : Tag) (s : State) : Host.Outcome State Fault Refusal :=
  .next (s.serve 0x18 tag State.readApplyReport)

end Sys2Proof.Machine
end

