-- ==== Sys2Proof/Machine/ExecHall.lean ====
section
/-! DEFINITION. The requests of the chapter Hall States, Joining and Beacons, and the beacon frames (R29 to R42). -/

namespace Sys2Proof.Machine

/-! ## Hall records (R30) -/

/-- The account may be named a hall's organiser (R30, R160). -/
def State.mayOrganise (s : State) (a : Nat) : Bool :=
  ((s.account a).state == .opened || (s.account a).state == .suspended) && (s.account a).kind == .organiser

/-- SET_HALL by its owner (R30). -/
def State.setHallRecord (hall organiser tariff : Word) (s : State) : Handled :=
  match hallField s.cpi.window hall, optBelow Config.accounts organiser, below Config.tariffs tariff with
  | some h, some o, some t =>
    if o.all s.mayOrganise then (s.setHall h { s.hall h with organiser := o, tariff := t }, .ok, [])
    else refuse s .accountState
  | _, _, _ => refuse s .badValue

/-- The answer of READ_HALL: the fields of R29, then role, effective hall, plan version, marked destinations, and whether the
announced map is current (R30). -/
def State.hallAnswer (s : State) (h : Nat) : List Word :=
  let x := s.hall h
  [x.state.word, boolWord (s.pls.joined h), optWord x.organiser, natWord x.tariff, boolWord x.beaconOn,
    natWord x.mapVersion.toNat, boolWord (isJunior h), natWord (s.pls.effectiveHall h), natWord s.pls.planVersion.toNat,
    natWord (s.markedOf h), boolWord (x.announced = s.pls.beaconMap h)]

/-- READ_HALL by its owner (R30). -/
def State.readHall (hall : Word) (s : State) : Handled :=
  match hallField s.cpi.window hall with
  | none => refuse s .badValue
  | some h => (s, .ok, s.hallAnswer h)

/-! ## Hall states (R31 to R33, R40) -/

/-- A beacon frame begins at a moment on a hall's output: it carries the announced map and version as they stand, and the next
follows 500 ms later (R40). -/
def State.sendBeacon (s : State) (h moment : Nat) : State :=
  let x := s.hall h
  s.setHall h { x with sent := beaconFrame h x.mapVersion x.announced, nextFrame := moment + 500 }

/-- A hall record takes a new state: beacon on follows, and a generator that starts sends its first frame at once (R31, R40). -/
def State.enterHallState (state : HallState) (s : State) (h : Nat) : State :=
  let was := (s.hall h).beaconOn
  let s := s.setHall h { s.hall h with state := state, beaconOn := state != .quiet }
  if !was && state != .quiet then s.sendBeacon h s.now else s

/-- The halls a state change covers: the senior of a JOINED pair brings its junior (R31). -/
def Pls.coveredHalls (p : Pls) (h : Nat) : List Nat := if p.joined h then [senior h, junior h] else [h]

/-- A hall's state takes a new value: the hall notice to the Floor Arbiter and the URGENT recompute notice (R31 to R33). -/
def State.changeHallState (s : State) (h : Nat) (state : HallState) : State :=
  let halls := s.pls.coveredHalls h
  let old := (s.hall h).state
  let s := s.each halls (State.enterHallState state)
  let s := if old = .live then s.each halls State.leaveLive else if state = .live then s.each halls State.enterLive else s
  s.notice .urgent (destinationNumbers.filter fun d => halls.contains (s.pls.destinationHall d))

/-- SET_HALL_STATE by its owner (R31). -/
def State.setHallState (hall state : Word) (s : State) : Handled :=
  match hallField s.cpi.window hall, hallStateField state with
  | some h, some x =>
    if s.pls.joinedJunior h then refuse s .joined
    else if (s.hall h).state = x then (s, .ok, [])
    else (s.changeHallState h x, .ok, [])
  | _, _ => refuse s .badValue

/-! ## Joining and splitting (R34 to R39) -/

/-- The join field of a hall's pair takes a value. -/
def State.setJoined (s : State) (h : Nat) (joined : Bool) : State :=
  s.setHall (senior h) { s.hall (senior h) with joined := joined }

/-- The relay recheck over all booths (R16, log 31): every invalid pick becomes FLOOR, all together, with RELAY_SET. -/
def State.relayRecheck (s : State) : State :=
  s.each s.invalidPicks fun t b => (t.onBooth b fun x => { x with pick := .floor }).directBooth b (.relaySet .floor)

/-- A join or split that passed its checks, taken (R35, R36, R39). -/
def State.takePair (s : State) (h : Nat) (joined : Bool) (reason : OffReason) (kind : ApplyKind) : State :=
  let resets := s.pairResets h
  let t := ((s.setJoined h joined).pairNotice h reason).relayRecheck
  t.applyNotice
    { kind := kind, version := s.pls.planVersion, hallsChanged := hallsChanged s.pls t.pls, stuck := 0,
      relayResets := resets, planCuts := 0 }

/-- The refusal of a join or split that would leave the junior's demand without a language, or none (R34, R38). -/
def State.demandRefusal (s : State) (h : Nat) (plan : HallPlan) : Option (List Word) :=
  (s.lostLanguage (junior h) plan).map fun l => [natWord (junior h), natWord l]

/-- JOIN_HALLS by its owner (R34). -/
def State.joinHalls (hall : Word) (s : State) : Handled :=
  match hallField s.cpi.window hall with
  | none => refuse s .badValue
  | some h =>
    if s.pls.joined h then refuse s .joined
    else if s.pls.operation.isSome then refuse s .busy
    else if (s.hall (senior h)).state ≠ .live || (s.hall (junior h)).state ≠ .live then refuse s .notLive
    else match s.demandRefusal h (s.pls.active.hall (senior h)) with
      | some body => (s, .inUse, body)
      | none => (s.takePair h true .join .join, .accepted, [])

/-- SPLIT_HALLS by its owner (R38). -/
def State.splitHalls (hall : Word) (s : State) : Handled :=
  match hallField s.cpi.window hall with
  | none => refuse s .badValue
  | some h =>
    if !s.pls.joined h then refuse s .notJoined
    else if s.pls.operation.isSome then refuse s .busy
    else if (s.hall (senior h)).state ≠ .live then refuse s .notLive
    else match s.demandRefusal h (s.pls.active.hall (junior h)) with
      | some body => (s, .inUse, body)
      | none => (s.takePair h false .split .split, .accepted, [])

/-! ## The commands -/

/-- SET_HALL (R30). -/
def execSetHall (tag : Tag) (hall organiser tariff : Word) (s : State) : Host.Outcome State Fault Refusal :=
  .next (s.serve 0x20 tag (State.setHallRecord hall organiser tariff))

/-- READ_HALL (R30). -/
def execReadHall (tag : Tag) (hall : Word) (s : State) : Host.Outcome State Fault Refusal :=
  .next (s.serve 0x21 tag (State.readHall hall))

/-- SET_HALL_STATE (R31 to R33). -/
def execSetHallState (tag : Tag) (hall state : Word) (s : State) : Host.Outcome State Fault Refusal :=
  .next (s.serve 0x22 tag (State.setHallState hall state))

/-- JOIN_HALLS (R34 to R36). -/
def execJoinHalls (tag : Tag) (hall : Word) (s : State) : Host.Outcome State Fault Refusal :=
  .next (s.serve 0x23 tag (State.joinHalls hall))

/-- SPLIT_HALLS (R38, R39). -/
def execSplitHalls (tag : Tag) (hall : Word) (s : State) : Host.Outcome State Fault Refusal :=
  .next (s.serve 0x24 tag (State.splitHalls hall))

/-- BEACON_FRAME (R40): the moment of a hall's next frame, while its beacon is on. -/
def execBeaconFrame (hall : Fin 6) (s : State) : Host.Outcome State Fault Refusal :=
  .next (s.event fun t => t.when (t.hall hall.val).beaconOn fun u =>
    (u.reach (u.hall hall.val).nextFrame).sendBeacon hall.val (u.hall hall.val).nextFrame)

end Sys2Proof.Machine
end

