-- ==== Sys2Proof/Machine/ExecPool.lean ====
section
/-! DEFINITION. The requests of the chapter The Receiver Pool (R134 to R157). -/

namespace Sys2Proof.Machine

/-! ## Registration, retirement, faults (R134 to R136) -/

/-- REGISTER_RECEIVER by its owner (R134). -/
def State.registerReceiver (serial : Word) (s : State) : Handled :=
  if serial = 0 then refuse s .badValue
  else if (s.rpm.bySerial serial).isSome then refuse s .duplicate
  else match s.rpm.freeRecord with
    | none => refuse s .full
    | some r => (s.setReceiver r { Receiver.initial with serial := some serial, state := .stock }, .ok, [natWord r])

/-- The owner of a request that names a receiver by its serial: NO_RECEIVER where no record holds it. -/
def State.withSerial (s : State) (serial : Word) (owner : Nat → Handled) : Handled :=
  match s.rpm.bySerial serial with
  | none => refuse s .noReceiver
  | some r => owner r

/-- RETIRE_RECEIVER by its owner (R135). -/
def State.retireReceiver (serial : Word) (s : State) : Handled :=
  s.withSerial serial fun r =>
    match (s.receiver r).state with
    | .issuing => refuse s .openHire
    | .issued => refuse s .openHire
    | .overdue => refuse s .openHire
    | .lost => refuse s .openHire
    | _ => if (s.receiver r).slot.isSome then refuse s .docked else (s.setReceiver r Receiver.initial, .ok, [])

/-- WRITE_OFF by its owner (R135). -/
def State.writeOff (serial : Word) (s : State) : Handled :=
  s.withSerial serial fun r =>
    if (s.receiver r).state ≠ .lost then refuse s .badState
    else
      let t := match (s.receiver r).hire with
        | none => s
        | some h => s.onAccount h.account Account.writeOff
      (t.setReceiver r Receiver.initial, .ok, [])

/-- MARK_FAULTY by its owner (R136). -/
def State.markFaulty (serial : Word) (s : State) : Handled :=
  s.withSerial serial fun r =>
    match (s.receiver r).state with
    | .issued => refuse s .openHire
    | .overdue => refuse s .openHire
    | .lost => refuse s .openHire
    | .issuing => refuse s .busy
    | .ready => ((s.leaveQueue r).onReceiver r fun x => { x with state := .faulty }, .ok, [])
    | _ => (s.onReceiver r fun x => { x with state := .faulty }, .ok, [])

/-- CLEAR_FAULTY by its owner (R136). -/
def State.clearFaulty (serial : Word) (s : State) : Handled :=
  s.withSerial serial fun r =>
    if (s.receiver r).state ≠ .faulty then refuse s .badState
    else match (s.receiver r).slot with
      | none => (s.onReceiver r fun x => { x with state := .loose }, .ok, [])
      | some k => ((s.onReceiver r fun x => { x with state := .charging }).ask k .identify .rpm, .ok, [])

/-- SET_POOL by its owner (R137). -/
def State.setPool (threshold timeout : Word) (s : State) : Handled :=
  match within 50 100 threshold, within 10 120 timeout with
  | some h, some p => ({ s with rpm := { s.rpm with threshold := h, pickupTimeout := p } }, .ok, [])
  | _, _ => refuse s .badValue

/-! ## Queues and tickets (R143 to R152) -/

/-- An entry of a ready queue as READ_QUEUE returns it: record number, serial, slot, ready time. -/
def State.queueEntry (s : State) (r : Nat) : List Word :=
  let x := s.receiver r
  natWord r :: (presenceWords x.serial ++ [optWord x.slot, natWord x.readyTime])

/-- READ_QUEUE by its owner (R143). -/
def State.readQueue (desk : Word) (s : State) : Handled :=
  match below Config.desks desk with
  | none => refuse s .badValue
  | some d => (s, .ok, natWord (s.queue d).length :: listWords s.queueEntry ((s.queue d).take 16))

/-- What an ISSUE names, its fields within their values (R145). -/
structure IssueRequest where
  account : Nat
  hall : Nat
  desk : Nat
  language : Option Nat
deriving DecidableEq, Repr

/-- The body words of an ISSUE. -/
def issueRequest (window : Nat) (account hall desk language : Word) : Option IssueRequest :=
  match below Config.accounts account, hallField window hall, below Config.desks desk, optBelow Config.languages language with
  | some a, some h, some d, some l => some { account := a, hall := h, desk := d, language := l }
  | _, _, _, _ => none

/-- The language of an issue: the one named, or the account's preference (R145). -/
def State.issueLanguage (s : State) (q : IssueRequest) : Option Nat := q.language.or (s.account q.account).preference

/-- An ISSUE that passed its checks, taken (R146): the ticket, the reserve, the eligible head, its PRESET. -/
def State.takeIssue (s : State) (q : IssueRequest) (t l r : Nat) : State :=
  let ticket : Ticket :=
    { state := .presetting, account := q.account, hall := q.hall, language := l, desk := q.desk,
      tariff := (s.account q.account).tariff, receiver := none, attempts := 1, step := some .presetWait, timer := 0,
      ending := none }
  ((s.setTicket t ticket).onAccount q.account Account.reserve).takeReceiver t r

/-- The checks of R145 in order, and the issue. -/
def State.checkIssue (s : State) (q : IssueRequest) : Handled :=
  match s.lowestFreeTicket with
  | none => refuse s .ticketsFull
  | some t =>
    match s.issueLanguage q with
    | none => refuse s .noLanguage
    | some l =>
      if !(s.pls.effectivePlan q.hall).carries l then refuse s .notCarried
      else if (s.hall q.hall).state ≠ .live then refuse s .hallNotLive
      else match s.reserveCheck q.account with
        | some r => refuse s r
        | none =>
          match s.eligibleHead q.desk with
          | none => refuse s .noUnit
          | some r => (s.takeIssue q t l r, .accepted, [natWord t])

/-- ISSUE by its owner (R145): every ISSUE returns the scan profile to NORMAL (R117). -/
def State.issueReceiver (account hall desk language : Word) (s : State) : Handled :=
  let s := s.setProfile false
  match issueRequest s.cpi.window account hall desk language with
  | none => refuse s .badValue
  | some q => s.checkIssue q

/-- CANCEL_TICKET by its owner (R151). -/
def State.cancelNamed (ticket : Word) (s : State) : Handled :=
  match below Config.tickets ticket with
  | none => refuse s .badValue
  | some t =>
    match s.ticket t with
    | none => refuse s .noTicket
    | some x => if x.isOpen then (s.cancelTicket t x, .ok, []) else refuse s .tooLate

/-- A ticket in the order of R144. -/
def Ticket.words (x : Ticket) : List Word :=
  [natWord x.state.position, natWord x.account, natWord x.hall, natWord x.language, natWord x.desk, natWord x.tariff,
    optWord x.receiver, natWord x.attempts, optWord (x.step.map Step.position), natWord x.timer,
    optWord (x.ending.map TicketEnding.position)]

/-- The serial and slot of a ticket's receiver, or none (R152). -/
def State.ticketReceiver (s : State) (x : Ticket) : List Word :=
  match x.receiver with
  | none => [0, 0, noneWord]
  | some r => presenceWords (s.receiver r).serial ++ [optWord (s.receiver r).slot]

/-- READ_TICKET by its owner (R152): a final ticket becomes free. -/
def State.readTicket (ticket : Word) (s : State) : Handled :=
  match below Config.tickets ticket with
  | none => refuse s .badValue
  | some t =>
    match s.ticket t with
    | none => refuse s .noTicket
    | some x => (if x.isOpen then s else s.freeTicket t, .ok, x.words ++ s.ticketReceiver x)

/-! ## Reading (R156, R157) -/

/-- The open-hire part; every field reads none where it is absent (log 28). -/
def hireWords : Option Hire → List Word
  | none => List.replicate 8 noneWord
  | some h =>
    [natWord h.account, natWord h.hall, natWord h.language, natWord h.tariff, natWord h.deposit, natWord h.issueTime,
      natWord h.dueTime, optWord h.lossCharge]

/-- For a docked receiver the state of its slot and its rack's role and desk. -/
def State.dockWords (s : State) : Option Nat → List Word
  | none => [noneWord, noneWord, noneWord]
  | some k =>
    [natWord (s.slot k).state.position, boolWord (s.rack (rackOf k)).desk.isNone, optWord (s.rack (rackOf k)).desk]

/-- A receiver's position in the ready queue it stands in. -/
def State.queuePosition (s : State) (r : Nat) : Option Nat :=
  (deskNumbers.find? fun d => (s.queue d).contains r).map fun d => (s.queue d).idxOf r

/-- The answer of READ_RECEIVER: the fields of R133, the slot, the place in the queue (R157). -/
def State.receiverAnswer (s : State) (r : Nat) : List Word :=
  let x := s.receiver r
  presenceWords x.serial ++ [natWord x.state.position, optWord x.slot, optWord x.battery, natWord x.readyTime,
    optWord x.ticket] ++ hireWords x.hire ++ s.dockWords x.slot ++ [optWord (s.queuePosition r)]

/-- READ_RECEIVER by its owner (R157). Selector 0 is SERIAL, 1 RECORD. -/
def State.readReceiver (selector value : Word) (s : State) : Handled :=
  match onOff selector with
  | none => refuse s .badValue
  | some false => s.withSerial value fun r => (s, .ok, s.receiverAnswer r)
  | some true =>
    match below Config.receivers value with
    | none => refuse s .badValue
    | some r => (s, .ok, s.receiverAnswer r)

/-- READ_LISTENING by its owner (R156): the 48 counts, then the 48 numbers of open tickets. -/
def State.readListening (hall : Word) (s : State) : Handled :=
  match hallField s.cpi.window hall with
  | none => refuse s .badValue
  | some h =>
    (s, .ok, (languageNumbers.map fun l => natWord (s.listening h l)) ++
      languageNumbers.map fun l => natWord (s.openTickets h l))

/-! ## The commands -/

/-- REGISTER_RECEIVER (R134). -/
def execRegisterReceiver (tag : Tag) (serial : Word) (s : State) : Host.Outcome State Fault Refusal :=
  .next (s.serve 0x70 tag (State.registerReceiver serial))

/-- RETIRE_RECEIVER (R135). -/
def execRetireReceiver (tag : Tag) (serial : Word) (s : State) : Host.Outcome State Fault Refusal :=
  .next (s.serve 0x71 tag (State.retireReceiver serial))

/-- WRITE_OFF (R135). -/
def execWriteOff (tag : Tag) (serial : Word) (s : State) : Host.Outcome State Fault Refusal :=
  .next (s.serve 0x72 tag (State.writeOff serial))

/-- MARK_FAULTY (R136). -/
def execMarkFaulty (tag : Tag) (serial : Word) (s : State) : Host.Outcome State Fault Refusal :=
  .next (s.serve 0x73 tag (State.markFaulty serial))

/-- CLEAR_FAULTY (R136). -/
def execClearFaulty (tag : Tag) (serial : Word) (s : State) : Host.Outcome State Fault Refusal :=
  .next (s.serve 0x74 tag (State.clearFaulty serial))

/-- SET_POOL (R137). -/
def execSetPool (tag : Tag) (threshold timeout : Word) (s : State) : Host.Outcome State Fault Refusal :=
  .next (s.serve 0x75 tag (State.setPool threshold timeout))

/-- READ_QUEUE (R143). -/
def execReadQueue (tag : Tag) (desk : Word) (s : State) : Host.Outcome State Fault Refusal :=
  .next (s.serve 0x76 tag (State.readQueue desk))

/-- ISSUE (R145, R146). -/
def execIssue (tag : Tag) (account hall desk language : Word) (s : State) : Host.Outcome State Fault Refusal :=
  .next (s.serve 0x77 tag (State.issueReceiver account hall desk language))

/-- CANCEL_TICKET (R151). -/
def execCancelTicket (tag : Tag) (ticket : Word) (s : State) : Host.Outcome State Fault Refusal :=
  .next (s.serve 0x78 tag (State.cancelNamed ticket))

/-- READ_TICKET (R152). -/
def execReadTicket (tag : Tag) (ticket : Word) (s : State) : Host.Outcome State Fault Refusal :=
  .next (s.serve 0x79 tag (State.readTicket ticket))

/-- READ_RECEIVER (R157). -/
def execReadReceiver (tag : Tag) (selector value : Word) (s : State) : Host.Outcome State Fault Refusal :=
  .next (s.serve 0x7A tag (State.readReceiver selector value))

/-- READ_LISTENING (R156). -/
def execReadListening (tag : Tag) (hall : Word) (s : State) : Host.Outcome State Fault Refusal :=
  .next (s.serve 0x7B tag (State.readListening hall))

end Sys2Proof.Machine
end

