-- ==== Sys2Proof/Machine/ExecPort.lean ====
section
/-! DEFINITION. The commands of the control port itself: resets from outside, recovery, frame errors, NOP, the hall window and the
list cursor (R180 to R191). -/

namespace Sys2Proof.Machine

/-! ## The list cursor (R189, R190) -/

/-- The number of records of a table. -/
def ListTable.size : ListTable → Nat
  | .languages => Config.languages
  | .booths => Config.booths
  | .consoles => Config.consoles
  | .routes => Config.destinations
  | .slots => Config.slots
  | .receivers => Config.receivers
  | .tickets => Config.tickets
  | .accounts => Config.accounts

/-- The number of states a table's filter ranges over. -/
def ListTable.states : ListTable → Nat
  | .languages => 2
  | .booths => 3
  | .consoles => 4
  | .routes => 3
  | .slots => 8
  | .receivers => 10
  | .tickets => 7
  | .accounts => 4

/-- The filter state of a booth: 0 UNUSED, 1 IDLE, 2 HELD. -/
def State.boothUse (s : State) (b : Nat) : Nat :=
  if (s.pls.active.booth b).a.isNone then 0 else if (s.booth b).holder.isSome then 2 else 1

/-- The state of a record as a filter position; a free ticket has none. -/
def State.recordState (s : State) (t : ListTable) (i : Nat) : Option Nat :=
  match t with
  | .languages => some (if (s.label i).isSome then 1 else 0)
  | .booths => some (s.boothUse i)
  | .consoles => some (s.link i).state.position
  | .routes => some (s.route i).status.position
  | .slots => some (s.slot i).state.position
  | .receivers => some (s.receiver i).state.position
  | .tickets => (s.ticket i).map fun x => x.state.position
  | .accounts => some (s.account i).state.position

/-- A state is in a filter; an empty filter holds every state. -/
def inFilter (filter : Word) (state : Nat) : Bool := filter = 0 || filter.getLsbD state

/-- The first record at or above a position whose state is in the filter. -/
def State.findRecord (s : State) (c : Cursor) : Option Nat :=
  (List.range' c.position (c.table.size - c.position)).find? fun i =>
    match s.recordState c.table i with
    | none => false
    | some p => inFilter c.filter p

/-- The summary of a ticket in use. -/
def Ticket.summary (x : Ticket) : List Word :=
  [natWord x.state.position, natWord x.account, optWord x.receiver]

/-- The summary that NEXT returns of a record. -/
def State.summary (s : State) (t : ListTable) (i : Nat) : List Word :=
  natWord i ::
    match t with
    | .languages => (if (s.label i).isSome then 1 else 0) :: labelWords (s.label i)
    | .booths =>
      let x := s.booth i
      [natWord (s.boothUse i), natWord (s.pls.boothHall i), optWord x.holder, x.direction.word, x.pick.word]
    | .consoles =>
      let x := s.floor i
      [natWord (s.link i).state.position, x.mic.word, optWord x.login, natWord (s.link i).errors]
    | .routes =>
      let x := s.route i
      [natWord x.status.position, natWord x.desired.number, confirmedWord x.confirmed, boolWord x.mark]
    | .slots =>
      let x := s.slot i
      [natWord x.state.position, optWord x.occupant, x.latch.word]
    | .receivers =>
      let x := s.receiver i
      natWord x.state.position :: (presenceWords x.serial ++ [optWord x.slot, optWord (x.hire.map Hire.account)])
    | .tickets => ((s.ticket i).map Ticket.summary).getD []
    | .accounts =>
      let x := s.account i
      natWord x.state.position :: x.kind.word :: (nameWords x.name ++ [moneyWord x.balance])

/-- OPEN_LIST by its owner (R189). -/
def State.openCursor (table start filter : Word) (s : State) : Handled :=
  match tableField table with
  | none => refuse s .badValue
  | some t =>
    if t.size ≤ start.toNat || 2 ^ t.states ≤ filter.toNat then refuse s .badValue
    else ({ s with cpi := { s.cpi with cursor := some { table := t, filter := filter, position := start.toNat } } }, .ok, [])

/-- NEXT by its owner (R190). -/
def State.nextOfList (s : State) : Handled :=
  match s.cpi.cursor with
  | none => refuse s .noList
  | some c =>
    match s.findRecord c with
    | some i =>
      ({ s with cpi := { s.cpi with cursor := some { c with position := i + 1 } } }, .ok, s.summary c.table i)
    | none =>
      ({ s with cpi := { s.cpi with cursor := some { c with position := c.table.size } } }, .finished,
        [natWord c.table.size])

/-- SELECT_HALL by its owner (R188). -/
def State.selectHall (hall : Word) (s : State) : Handled :=
  match below Config.halls hall with
  | none => refuse s .badValue
  | some h => ({ s with cpi := { s.cpi with window := h } }, .ok, [natWord h])

/-! ## Frame errors (R185) -/

/-- The number of a frame error's reason (9.5.3). -/
def frameReasonNumber : FrameReason → Word
  | .ragged => 0
  | .short => 1
  | .code => 2
  | .length => 3

/-- The BAD_FRAME response: the reason, with the code and the tag as received, 0 for each byte of them not clocked in. -/
def badFrame (frame : List Byte) (reason : FrameReason) : Response :=
  { result := .badFrame, code := frame.getD 0 0, tag := bytesHalf (frame.getD 2 0) (frame.getD 3 0),
    body := [frameReasonNumber reason] }

/-- A frame error taken: BAD_FRAME is held and the fault FRAME is set. -/
def State.takeFrameError (s : State) (frame : List Byte) (reason : FrameReason) : State :=
  let s := s.hold (badFrame frame reason)
  { s with tau := s.tau.enter .frame }

/-! ## The commands -/

/-- HARD_RESET (R200): the whole of the reset that RESET_N causes, its low phase and its rise (R180; DESIGN CHOICE, log 34). -/
def execHardReset (s : State) : Host.Outcome State Fault Refusal := .next (s.event State.hardReset)

/-- RESET_RECOVERY_END (R184); nothing where no recovery is in progress (log 3). -/
def execResetRecoveryEnd (s : State) : Host.Outcome State Fault Refusal :=
  .next (s.event fun t => match t.cpi.recovery with
    | none => t
    | some r => t.endRecovery r)

/-- NOT_READY_EXCHANGE (R183): the exchange met the execution of the previous request or reset recovery (log 16). -/
def execNotReadyExchange (s : State) : Host.Outcome State Fault Refusal := .next (s.event State.notReady)

/-- FRAME_ERROR (R185): bytes that fail no check, or no byte at all, are no frame error (log 27). -/
def execFrameError (frame : List Byte) (s : State) : Host.Outcome State Fault Refusal :=
  .next (s.event fun t =>
    if frame = [] then t
    else match frameReason frame with
      | none => t
      | some reason => t.exchange fun u => u.takeFrameError frame reason)

/-- NOP (R186): the held response stays as it stands. -/
def execNop (_tag : Tag) (s : State) : Host.Outcome State Fault Refusal :=
  .next (s.event fun t => t.exchange fun u => u)

/-- SELECT_HALL (R188). -/
def execSelectHall (tag : Tag) (hall : Word) (s : State) : Host.Outcome State Fault Refusal :=
  .next (s.serve 0x01 tag (State.selectHall hall))

/-- OPEN_LIST (R189). -/
def execOpenList (tag : Tag) (table start filter : Word) (s : State) : Host.Outcome State Fault Refusal :=
  .next (s.serve 0x02 tag (State.openCursor table start filter))

/-- NEXT (R190). -/
def execNextRecord (tag : Tag) (s : State) : Host.Outcome State Fault Refusal := .next (s.serve 0x03 tag State.nextOfList)

end Sys2Proof.Machine
end

