-- ==== Sys2Proof/Machine/ExecRack.lean ====
section
/-! DEFINITION. The events of the rack line and the requests of the chapter Dock Racks and Receiver Contact (R112 to R132). -/

namespace Sys2Proof.Machine

/-! ## Events of the rack line (R114, R118, R123) -/

/-- A rack's scan falls due (R114). -/
def State.scanDue (s : State) (k : Nat) : State :=
  let due := (s.rack k).nextScan
  if due.isFallen then s
  else
    let s := s.reach due.moment
    s.setRack k { s.rack k with nextScan := due.fall }

/-- A rack's scan reply (R118): taken when its SCAN is in progress and it carries 40 readings. -/
def State.scanReply (s : State) (k : Nat) (readings : List Bool) : State :=
  match s.rks.line with
  | some (.scan j _) => s.when (j == k && readings.length == 40) fun t => t.freeLine.scanned k readings
  | _ => s

/-- The 1 ms window of the exchange in progress ends without a good reply (R114). -/
def State.lineWindowEnds (s : State) : State :=
  match s.rks.line with
  | none => s
  | some e => ((s.reach (e.started + 1)).freeLine).noReply e

/-- A START answered ACCEPTED (R114, R123): the first RESULT falls due 20 ms after the end of the START frame. -/
def State.startAccepted (s : State) (k : Nat) : State :=
  let x := s.rack k
  s.setRack k { x with attempt := x.attempt.map fun a => { a with resultDue := some (Due.from s.now (a.began + 20)) } }

/-- A rack's START reply (R123): taken when its START is in progress. -/
def State.startReply (s : State) (k : Nat) (accepted : Bool) : State :=
  match s.rks.line with
  | some (.start j _) => s.when (j == k) fun t => if accepted then t.freeLine.startAccepted k else t.freeLine.attemptFails k
  | _ => s

/-- The RESULT of a rack's attempt falls due (R114, R123). -/
def State.resultDue (s : State) (k : Nat) : State :=
  let x := s.rack k
  match x.attempt with
  | none => s
  | some a =>
    match a.resultDue with
    | some (.at m) => (s.reach m).setRack k { x with attempt := some { a with resultDue := some (.fallen m) } }
    | _ => s

/-- A rack's RESULT reply (R123, R124): taken when its RESULT is in progress, for the position asked after and with what the kind of
job asks for. For an attempt no longer open it ends the exchange and nothing else. -/
def State.resultReply (s : State) (k position : Nat) (outcome : ResultOutcome) : State :=
  match s.rks.line with
  | some (.result j _ fellDue) =>
    s.when (j == k) fun t =>
      match (t.rack k).attempt, (t.rack k).jobs with
      | some _, job :: _ =>
        t.when (position == job.slot % Config.slotsPerRack && job.kind.fits outcome) fun u =>
          u.freeLine.resultTaken k job fellDue outcome
      | _, _ => t.freeLine
  | _ => s

/-- 200 ms have passed after the end of the START frame (R123). -/
def State.attemptExpires (s : State) (k : Nat) : State :=
  match (s.rack k).attempt with
  | none => s
  | some a => (s.reach (a.began + 200)).attemptFails k

/-! ## Requests (R113, R116, R117, R128, R130) -/

/-- Some slot of the rack has an occupant. -/
def State.rackHolds (s : State) (k : Nat) : Bool := (slotsOf k).any fun i => (s.slot i).occupant.isSome

/-- The role and desk of SET_RACK: role 0 DESK with a desk, 1 STORE with none, whatever desk is given. -/
def deskField (role desk : Word) : Option (Option Nat) :=
  if role = 0 then (below Config.desks desk).map some else if role = 1 then some none else none

/-- The four fields of a rack replaced; a change of the interval in force moves the next scan (R113). -/
def Rack.configure (x : Rack) (desk : Option Nat) (normal night : Nat) (profile : Bool) (now : Nat) : Rack :=
  let y := { x with desk := desk, normal := normal, night := night }
  if y.interval profile = x.interval profile then y else y.reschedule profile now

/-- SET_RACK by its owner (R113). -/
def State.setRackRecord (rack role desk normal night : Word) (s : State) : Handled :=
  match below Config.racks rack, deskField role desk, intervalField normal, intervalField night with
  | some k, some d, some n, some g =>
    if d ≠ (s.rack k).desk && s.rackHolds k then refuse s .inUse
    else (s.setRack k ((s.rack k).configure d n g s.rks.night s.now), .ok, [])
  | _, _, _, _ => refuse s .badValue

/-- A slot enabled, disabled, or left as it is, by SET_SLOT (R116). -/
def State.enableSlot (s : State) (k : Nat) (enable attention wake : Bool) : State :=
  let x := s.slot k
  let fields : Slot := { x with attention := attention, wake := wake }
  if enable = (x.state != .disabled) then s.setSlot k fields
  else if enable then s.setSlot k { fields with state := .empty, presence := .unsettled, candidate := none }
  else (s.dropJobs k).setSlot k { fields with state := .disabled, presence := .absent, candidate := none }

/-- SET_SLOT by its owner (R116). -/
def State.setSlotRecord (slot enable attention wake : Word) (s : State) : Handled :=
  match below Config.slots slot, onOff enable, onOff attention, onOff wake with
  | some k, some e, some a, some w =>
    if !e && ((s.slot k).occupant.isSome || (s.slot k).state == .issuing) then refuse s .inUse
    else (s.enableSlot k e a w, .ok, [])
  | _, _, _, _ => refuse s .badValue

/-- SET_SCAN_PROFILE by its owner (R117). Profile 0 is NORMAL, 1 NIGHT. -/
def State.setScanProfile (profile : Word) (s : State) : Handled :=
  match onOff profile with
  | none => refuse s .badValue
  | some p => (s.setProfile p, .ok, [])

/-- SET_CHARGE_POLL by its owner (R128). -/
def State.setChargePoll (interval : Word) (s : State) : Handled :=
  match within 10 600 interval with
  | none => refuse s .badValue
  | some n => ({ s with rks := { s.rks with pollInterval := n, pollCounter := 0 } }, .ok, [])

/-- IDENTIFY_SLOT by its owner (R130). -/
def State.identifySlot (slot : Word) (s : State) : Handled :=
  match below Config.slots slot with
  | none => refuse s .badValue
  | some k =>
    match (s.slot k).state with
    | .disabled => refuse s .notPresent
    | .empty => refuse s .notPresent
    | .settling => refuse s .notPresent
    | .issuing => refuse s .busy
    | .ident => refuse s .busy
    | .occupied => (s.ask k .identify .host, .ok, [])
    | .foreign => (s.ask k .identify .host, .ok, [])
    | .fault => (s.ask k .identify .host, .ok, [])

/-- A slot record in the order of R115; the debounce count is 1 exactly when there is a candidate. -/
def Slot.words (x : Slot) : List Word :=
  [natWord x.state.position, optWord x.occupant, x.presence.word, boolWord x.candidate.isSome, candidateWord x.candidate,
    x.latch.word, boolWord x.attention, boolWord x.wake]

/-- The listed jobs of a slot: kind, origin, and whether the job is the one in flight (R130). -/
def Rack.jobWords (x : Rack) (slot : Nat) : List Word :=
  listWords (fun (p : Job × Bool) => [natWord p.1.kind.position, p.1.origin.word, boolWord p.2])
    ((x.inFlight.map (fun j => (j, true)) ++ x.waiting.map fun j => (j, false)).filter fun p => p.1.slot == slot)

/-- READ_SLOT by its owner (R130). -/
def State.readSlot (slot : Word) (s : State) : Handled :=
  match below Config.slots slot with
  | none => refuse s .badValue
  | some k => (s, .ok, (s.slot k).words ++ (s.rack (rackOf k)).jobWords k)

/-- A rack's transaction as READ_RACK returns it: slot and kind of the job in flight, attempt number, milliseconds elapsed. R130 gives the
job no layout: its origin and its PRESET arguments are left out (DESIGN CHOICE, log 41). -/
def Rack.attemptWords (x : Rack) (now : Nat) : List Word :=
  match x.attempt, x.jobs with
  | some a, j :: _ => [natWord j.slot, natWord j.kind.position, natWord a.number, natWord (now - a.began)]
  | _, _ => [noneWord, noneWord, noneWord, noneWord]

/-- A rack record in the order of R112, its list as the number of issue jobs and of IDENTIFY jobs waiting (R130). Role 0 is DESK,
1 STORE; link state 0 is UP, 1 SILENT. -/
def Rack.words (x : Rack) (now : Nat) : List Word :=
  [boolWord x.desk.isNone, optWord x.desk, natWord x.normal, natWord x.night, boolWord x.silent, natWord x.missed,
    natWord (x.nextScan.remaining now), natWord (x.waiting.countP fun j => j.kind.isIssue),
    natWord (x.waiting.countP fun j => !j.kind.isIssue)] ++ x.attemptWords now

/-- The slot states in the order of R115. -/
def slotStates : List SlotState := [.disabled, .empty, .settling, .ident, .occupied, .foreign, .issuing, .fault]

/-- READ_RACK by its owner (R130). -/
def State.readRack (rack : Word) (s : State) : Handled :=
  match below Config.racks rack with
  | none => refuse s .badValue
  | some k =>
    (s, .ok, (s.rack k).words s.now ++ [boolWord s.rks.night, natWord s.rks.pollInterval, natWord s.rks.pollCounter]
      ++ slotStates.map fun x => natWord ((slotsOf k).countP fun i => (s.slot i).state == x))

/-! ## The commands -/

/-- RL_SCAN_DUE (R114). -/
def execRlScanDue (rack : Fin 16) (s : State) : Host.Outcome State Fault Refusal := .next (s.event fun t => t.scanDue rack.val)

/-- RL_SCAN_REPLY (R118). -/
def execRlScanReply (rack : Fin 16) (readings : List Bool) (s : State) : Host.Outcome State Fault Refusal :=
  .next (s.event fun t => t.scanReply rack.val readings)

/-- RL_REPLY_WINDOW_EXPIRY (R114, R118, R123). -/
def execRlReplyWindowExpiry (s : State) : Host.Outcome State Fault Refusal := .next (s.event State.lineWindowEnds)

/-- RL_START_REPLY (R123). -/
def execRlStartReply (rack : Fin 16) (accepted : Bool) (s : State) : Host.Outcome State Fault Refusal :=
  .next (s.event fun t => t.startReply rack.val accepted)

/-- RL_RESULT_DUE (R123). -/
def execRlResultDue (rack : Fin 16) (s : State) : Host.Outcome State Fault Refusal :=
  .next (s.event fun t => t.resultDue rack.val)

/-- RL_RESULT_REPLY (R123, R124). -/
def execRlResultReply (rack : Fin 16) (position : Nat) (outcome : ResultOutcome) (s : State) :
    Host.Outcome State Fault Refusal :=
  .next (s.event fun t => t.resultReply rack.val position outcome)

/-- CONTACT_ATTEMPT_TIMEOUT (R123). -/
def execContactAttemptTimeout (rack : Fin 16) (s : State) : Host.Outcome State Fault Refusal :=
  .next (s.event fun t => t.attemptExpires rack.val)

/-- SET_RACK (R113). -/
def execSetRack (tag : Tag) (rack role desk normal night : Word) (s : State) : Host.Outcome State Fault Refusal :=
  .next (s.serve 0x60 tag (State.setRackRecord rack role desk normal night))

/-- SET_SLOT (R116). -/
def execSetSlot (tag : Tag) (slot enable attention wake : Word) (s : State) : Host.Outcome State Fault Refusal :=
  .next (s.serve 0x61 tag (State.setSlotRecord slot enable attention wake))

/-- SET_SCAN_PROFILE (R117). -/
def execSetScanProfile (tag : Tag) (profile : Word) (s : State) : Host.Outcome State Fault Refusal :=
  .next (s.serve 0x62 tag (State.setScanProfile profile))

/-- SET_CHARGE_POLL (R128). -/
def execSetChargePoll (tag : Tag) (interval : Word) (s : State) : Host.Outcome State Fault Refusal :=
  .next (s.serve 0x63 tag (State.setChargePoll interval))

/-- IDENTIFY_SLOT (R130). -/
def execIdentifySlot (tag : Tag) (slot : Word) (s : State) : Host.Outcome State Fault Refusal :=
  .next (s.serve 0x64 tag (State.identifySlot slot))

/-- READ_SLOT (R130). -/
def execReadSlot (tag : Tag) (slot : Word) (s : State) : Host.Outcome State Fault Refusal :=
  .next (s.serve 0x65 tag (State.readSlot slot))

/-- READ_RACK (R130). -/
def execReadRack (tag : Tag) (rack : Word) (s : State) : Host.Outcome State Fault Refusal :=
  .next (s.serve 0x66 tag (State.readRack rack))

end Sys2Proof.Machine
end

