-- ==== Sys2Proof/Machine/ExecRoute.lean ====
section
/-! DEFINITION. The requests of the chapter Routing and the Crosspoint Link, and the events of the matrix link (R49 to R61). -/

namespace Sys2Proof.Machine

/-! ## Requests (R55, R60) -/

/-- MATRIX_RETRY by its owner (R55): the STUCK destinations in ascending order, and their number. -/
def State.retryStuck (s : State) : Handled :=
  let stuck := s.rte.stuckOnes
  ({ s with rte := stuck.foldl Rte.unstick s.rte }, .ok, [natWord stuck.length])

/-- The list a destination stands in, 0 URGENT or 1 BULK, and its position from the head, or none. -/
def Rte.place (r : Rte) (d : Nat) : List Word :=
  if r.urgent.contains d then [0, natWord (r.urgent.idxOf d)]
  else if r.bulk.contains d then [1, natWord (r.bulk.idxOf d)] else [noneWord, noneWord]

/-- The outstanding command for a destination: whether there is one, its source, tag and send count. -/
def Rte.commandFor (r : Rte) (d : Nat) : List Word :=
  match r.outstanding.filter fun c => c.destination == d with
  | none => [0, noneWord, noneWord, noneWord]
  | some c => [1, natWord c.source.number, natWord c.tag.toNat, natWord c.sends]

/-- The fields of a routing map entry (R43). -/
def Route.words (x : Route) : List Word :=
  [natWord x.desired.number, confirmedWord x.confirmed, natWord x.status.position, boolWord x.mark, natWord x.attempts]

/-- READ_ROUTE by its owner (R60). -/
def State.readRoute (destination : Word) (s : State) : Handled :=
  match below Config.destinations destination with
  | none => refuse s .badValue
  | some d => (s, .ok, (s.route d).words ++ s.rte.place d ++ s.rte.commandFor d)

/-- The outstanding command as READ_LINK returns it: destination, source, tag, send count, or none (R49, R60). -/
def Rte.commandWords (r : Rte) : List Word :=
  match r.outstanding with
  | none => [noneWord, noneWord, noneWord, noneWord]
  | some c => [natWord c.destination, natWord c.source.number, natWord c.tag.toNat, natWord c.sends]

/-- READ_LINK by its owner (R60). The link state is 0 UP, 1 DOWN. -/
def State.readLink (s : State) : Handled :=
  (s, .ok, boolWord (!s.rte.up) :: (s.rte.commandWords ++
    [natWord s.rte.timeouts, natWord s.rte.nextTag.toNat, natWord s.rte.urgent.length, natWord s.rte.bulk.length]))

/-! ## Answers of the crosspoint unit (R51 to R57) -/

/-- The outstanding command that an answer with a destination and a tag matches (R51). -/
def Rte.matching (r : Rte) (destination : Byte) (tag : BitVec 2) : Option SetCommand :=
  r.outstanding.filter fun c => c.destination == destination.toNat && c.tag == tag

/-- A matching REJECT BUSY (R52). -/
def State.busyAnswer (s : State) (c : SetCommand) : State :=
  { s with rte := ({ s.rte with timeouts := 0 }).retry c s.now }

/-- A matching REJECT (R52, R54). -/
def State.rejected (s : State) (c : SetCommand) : RejectReason → State
  | .busy => s.busyAnswer c
  | .noPort => s.refusedByUnit c
  | .badSource => s.refusedByUnit c

/-- The confirmation timeout of the outstanding command (R52, R53): the fourth in a row takes the link DOWN. -/
def State.timedOut (s : State) (c : SetCommand) : State :=
  let s := s.reach c.deadline
  if 4 ≤ s.rte.timeouts + 1 then { s with rte := s.rte.goDown s.now }
  else { s with rte := ({ s.rte with timeouts := s.rte.timeouts + 1 }).retry c s.now }

/-- PROBE is sent again every 1000 ms while the link is DOWN (R53). -/
def State.probeMatrix (s : State) : State :=
  let s := s.reach s.rte.probeDue
  { s with rte := { s.rte with probeDue := s.rte.probeDue + 1000, sent := matrixProbeFrame } }

/-! ## The commands -/

/-- MATRIX_RETRY (R55). -/
def execMatrixRetry (tag : Tag) (s : State) : Host.Outcome State Fault Refusal := .next (s.serve 0x30 tag State.retryStuck)

/-- READ_ROUTE (R60). -/
def execReadRoute (tag : Tag) (destination : Word) (s : State) : Host.Outcome State Fault Refusal :=
  .next (s.serve 0x31 tag (State.readRoute destination))

/-- READ_LINK (R60). -/
def execReadLink (tag : Tag) (s : State) : Host.Outcome State Fault Refusal := .next (s.serve 0x32 tag State.readLink)

/-- MATRIX_DONE (R51): an answer that matches no outstanding command is ignored. -/
def execMatrixDone (destination : Byte) (linkTag : BitVec 2) (s : State) : Host.Outcome State Fault Refusal :=
  .next (s.event fun t => match t.rte.matching destination linkTag with
    | none => t
    | some c => t.doneTaken c)

/-- MATRIX_REJECT (R52, R54). -/
def execMatrixReject (destination : Byte) (linkTag : BitVec 2) (reason : RejectReason) (s : State) :
    Host.Outcome State Fault Refusal :=
  .next (s.event fun t => match t.rte.matching destination linkTag with
    | none => t
    | some c => t.rejected c reason)

/-- MATRIX_CONFIRM_TIMEOUT (R52, R53). -/
def execMatrixConfirmTimeout (s : State) : Host.Outcome State Fault Refusal :=
  .next (s.event fun t => match t.rte.outstanding with
    | none => t
    | some c => t.timedOut c)

/-- MATRIX_PROBE_DUE (R53). -/
def execMatrixProbeDue (s : State) : Host.Outcome State Fault Refusal :=
  .next (s.event fun t => t.when (!t.rte.up) State.probeMatrix)

/-- PRESENT (R53): ignored while the link is UP. -/
def execPresent (s : State) : Host.Outcome State Fault Refusal :=
  .next (s.event fun t => t.when (!t.rte.up) fun u => { u with rte := u.rte.comeUp })

/-- ALERT (R57): a resync in either link state, and MATRIX_ALERT. -/
def execAlert (s : State) : Host.Outcome State Fault Refusal :=
  .next (s.event fun t => State.raise { t with rte := t.rte.comeUp } .matrixAlert)

end Sys2Proof.Machine
end

