-- ==== Sys2Proof/Machine/ExecTime.lean ====
section
/-! DEFINITION. The commands of the chapter Timebase, Attention and Faults: the sources of ticks, the shares of a tick that the
table gives rows of their own, the attention line, the fault set and the RESET request (R193 to R200). -/

namespace Sys2Proof.Machine

/-! ## Ticks (R194) -/

/-- A pulse on TREF: a tick with the watch started afresh; it ends TREF_LOST. -/
def State.takePulse (s : State) : State := State.tick { s with tau := s.tau.pulse }

/-- The TREF watch runs out: TREF_LOST begins with an internal tick. -/
def State.watchEnds (s : State) : State :=
  match s.tau.internal, s.tau.watch with
  | false, some m => State.tick { s with tau := (s.tau.reach m).loseTref }
  | _, _ => s

/-- An internal tick, while the tick source is INTERNAL. -/
def State.takeInternalTick (s : State) : State :=
  match s.tau.internal, s.tau.nextInternal with
  | true, some m => State.tick { s with tau := { s.tau.reach m with nextInternal := some (m + 1000) } }
  | _, _ => s

/-! ## Shares of a tick (log 5): each row is its owner's work at one record, taken where the tick carries the record over the
boundary that the row names -/

/-- SERVICE_MINUTE (R108): the service second that brings the counter of a channel with a LIVE feeder to 60. -/
def State.serviceMinute (s : State) (k : Nat) : State :=
  s.when ((s.feeder (k / Config.channels) (k % Config.channels)).isSome && 60 ≤ (s.token k).service + 1) fun t =>
    t.serviceShare k

/-- HANDOVER_EXPIRY (R97): the tick that brings a booth's deadline to 0. -/
def State.handoverExpiry (s : State) (b : Nat) : State :=
  match (s.booth b).deadline with
  | none => s
  | some n => s.when (n ≤ 1) fun t => (t.expireHandover b).floorNotice t

/-- DUTY_WARN (R106): the tick that brings a LIVE console's duty timer to the duty limit. -/
def State.dutyWarning (s : State) (a : Nat) : State :=
  let x := s.floor a
  s.when (x.mic = .live && !x.dutyWarned && s.dutySeconds a ≤ x.dutyTimer + 1) fun t => t.dutyShare a

/-- DUTY_OVER (R106): the tick that brings a LIVE console's duty timer 300 seconds past the duty limit. -/
def State.dutyOverrun (s : State) (a : Nat) : State :=
  let x := s.floor a
  s.when (x.mic = .live && !x.dutyOver && s.dutySeconds a + 300 ≤ x.dutyTimer + 1) fun t => t.dutyShare a

/-- PICKUP_TIMEOUT (R150): the tick that brings a ticket's pickup timer to 0. -/
def State.pickupTimeout (s : State) (t : Nat) : State :=
  match s.ticket t with
  | none => s
  | some x => s.when (x.state = .awaitPickup && x.timer ≤ 1) fun u => u.expirePickup t

/-- CHARGE_POLL (R128): the tick that brings the poll counter to its interval. -/
def State.chargePollDue (s : State) : State :=
  s.when (s.rks.pollInterval ≤ s.rks.pollCounter + 1) State.rackTick

/-! ## The attention line (R196, R197) -/

/-- SET_ENABLES by its owner (R196). -/
def State.setEnables (enables : Word) (s : State) : Handled :=
  if 2 ^ 17 ≤ enables.toNat then refuse s .badValue
  else ({ s with tau := { s.tau with enables := enables.setWidth 17 } }, .ok, [enables])

/-- READ_CAUSES by its owner (R197): the causes returned leave the set. -/
def State.readCauses (s : State) : Handled :=
  ({ s with tau := { s.tau with causes := 0 } }, .ok, [s.tau.causes.setWidth 32, s.tau.enables.setWidth 32])

/-- PULSE_ATTN by its owner (R197): a pulse of 100 µs of its own. -/
def State.pulseAttn (s : State) : Handled := ({ s with tau := { s.tau with pulses := s.tau.pulses + 1 } }, .ok, [])

/-! ## The clock (R193) -/

/-- SET_CLOCK by its owner (R193). -/
def State.setClock (clock : Word) (s : State) : Handled :=
  ({ s with tau := { s.tau with clock := clock.toNat } }, .ok, [clock])

/-- READ_CLOCK by its owner (R193). The tick source is 0 TREF, 1 INTERNAL. -/
def State.readClock (s : State) : Handled := (s, .ok, [natWord s.tau.clock, boolWord s.tau.internal])

/-! ## The fault set (R198, R199) -/

/-- The set of the conditions present. -/
def State.conditionSet (s : State) : BitVec 8 :=
  conditionFaults.foldl (fun w f => if s.condition f then w ||| f.bit else w) 0

/-- READ_FAULTS by its owner (R199): POWER and FRAME are removed. -/
def State.readFaults (s : State) : Handled :=
  ({ s with tau := (s.tau.leave .power).leave .frame }, .ok, [s.tau.faults.setWidth 32, s.conditionSet.setWidth 32])

/-! ## The RESET request (R200) -/

/-- A RESET request: an exchange, and after it the reset of its scope, 0 LINKS or 1 ALL; another value is refused (R200). -/
def State.resetRequest (s : State) (tag : Tag) (scope : Word) : State :=
  s.exchange fun t =>
    if scope = 0 then t.softReset tag
    else if scope = 1 then t.fullReset tag
    else t.hold { result := .badValue, code := 0x96, tag := tag, body := [] }

/-! ## The commands -/

/-- TREF_PULSE (R194). -/
def execTrefPulse (s : State) : Host.Outcome State Fault Refusal := .next (s.event State.takePulse)

/-- TREF_WATCH_EXPIRY (R194). -/
def execTrefWatchExpiry (s : State) : Host.Outcome State Fault Refusal := .next (s.event State.watchEnds)

/-- INTERNAL_TICK (R194). -/
def execInternalTick (s : State) : Host.Outcome State Fault Refusal := .next (s.event State.takeInternalTick)

/-- SERVICE_MINUTE (R108). -/
def execServiceMinute (hall : Fin 6) (channel : Fin 32) (s : State) : Host.Outcome State Fault Refusal :=
  .next (s.event fun t => t.serviceMinute (busOf hall.val channel.val))

/-- HANDOVER_EXPIRY (R97). -/
def execHandoverExpiry (booth : Fin 32) (s : State) : Host.Outcome State Fault Refusal :=
  .next (s.event fun t => t.handoverExpiry booth.val)

/-- DUTY_WARN (R106). -/
def execDutyWarn (console : Fin 96) (s : State) : Host.Outcome State Fault Refusal :=
  .next (s.event fun t => t.dutyWarning console.val)

/-- DUTY_OVER (R106). -/
def execDutyOver (console : Fin 96) (s : State) : Host.Outcome State Fault Refusal :=
  .next (s.event fun t => t.dutyOverrun console.val)

/-- PICKUP_TIMEOUT (R150). -/
def execPickupTimeout (ticket : Fin 8) (s : State) : Host.Outcome State Fault Refusal :=
  .next (s.event fun t => t.pickupTimeout ticket.val)

/-- HIRE_OVERDUE (R154). -/
def execHireOverdue (receiver : Fin 4096) (s : State) : Host.Outcome State Fault Refusal :=
  .next (s.event fun t => t.overdueCheck receiver.val)

/-- HIRE_LOST (R154). -/
def execHireLost (receiver : Fin 4096) (s : State) : Host.Outcome State Fault Refusal :=
  .next (s.event fun t => t.lostCheck receiver.val)

/-- CHARGE_POLL (R128). -/
def execChargePoll (s : State) : Host.Outcome State Fault Refusal := .next (s.event State.chargePollDue)

/-- SET_CLOCK (R193). -/
def execSetClock (tag : Tag) (clock : Word) (s : State) : Host.Outcome State Fault Refusal :=
  .next (s.serve 0x90 tag (State.setClock clock))

/-- READ_CLOCK (R193). -/
def execReadClock (tag : Tag) (s : State) : Host.Outcome State Fault Refusal := .next (s.serve 0x91 tag State.readClock)

/-- READ_CAUSES (R197). -/
def execReadCauses (tag : Tag) (s : State) : Host.Outcome State Fault Refusal := .next (s.serve 0x92 tag State.readCauses)

/-- SET_ENABLES (R196). -/
def execSetEnables (tag : Tag) (enables : Word) (s : State) : Host.Outcome State Fault Refusal :=
  .next (s.serve 0x93 tag (State.setEnables enables))

/-- PULSE_ATTN (R197). -/
def execPulseAttn (tag : Tag) (s : State) : Host.Outcome State Fault Refusal := .next (s.serve 0x94 tag State.pulseAttn)

/-- ATTN_PULSE_END (R197): a pulse ends; nothing where none runs (log 3). -/
def execAttnPulseEnd (s : State) : Host.Outcome State Fault Refusal :=
  .next (s.event fun t => { t with tau := { t.tau with pulses := t.tau.pulses - 1 } })

/-- READ_FAULTS (R199). -/
def execReadFaults (tag : Tag) (s : State) : Host.Outcome State Fault Refusal := .next (s.serve 0x95 tag State.readFaults)

/-- RESET_LINKS (R200): RESET with scope LINKS, or with a scope that is neither LINKS nor ALL (log 21). -/
def execResetLinks (tag : Tag) (scope : Word) (s : State) : Host.Outcome State Fault Refusal :=
  .next (s.event fun t => t.resetRequest tag scope)

/-- RESET_ALL (R200): RESET with scope ALL. -/
def execResetAll (tag : Tag) (s : State) : Host.Outcome State Fault Refusal :=
  .next (s.event fun t => t.exchange fun u => u.fullReset tag)

end Sys2Proof.Machine
end

