-- ==== Sys2Proof/Machine/Dispatch.lean ====
section
/-! DEFINITION. The one dispatch: each command of the table goes to its own meaning. -/

namespace Sys2Proof.Machine

/-- The effect of a command on everything but the queue. -/
def exec (i : Instr) (s : State) : Host.Outcome State Fault Refusal :=
  match i with
  | .hardReset => Sys2Proof.Machine.execHardReset s
  | .resetRecoveryEnd => Sys2Proof.Machine.execResetRecoveryEnd s
  | .notReadyExchange => Sys2Proof.Machine.execNotReadyExchange s
  | .frameError frame => Sys2Proof.Machine.execFrameError frame s
  | .nop tag => Sys2Proof.Machine.execNop tag s
  | .selectHall tag hall => Sys2Proof.Machine.execSelectHall tag hall s
  | .openList tag table start filter => Sys2Proof.Machine.execOpenList tag table start filter s
  | .nextRecord tag => Sys2Proof.Machine.execNextRecord tag s
  | .defineLanguage tag label => Sys2Proof.Machine.execDefineLanguage tag label s
  | .retireLanguage tag slot => Sys2Proof.Machine.execRetireLanguage tag slot s
  | .setWidth tag hall width => Sys2Proof.Machine.execSetWidth tag hall width s
  | .setChannel tag hall channel language fallback interlock => Sys2Proof.Machine.execSetChannel tag hall channel language fallback interlock s
  | .setBoothPlan tag booth home a b relay => Sys2Proof.Machine.execSetBoothPlan tag booth home a b relay s
  | .clearDraft tag => Sys2Proof.Machine.execClearDraft tag s
  | .readPlan tag copy hall booth => Sys2Proof.Machine.execReadPlan tag copy hall booth s
  | .commitPlan tag version => Sys2Proof.Machine.execCommitPlan tag version s
  | .applyComplete => Sys2Proof.Machine.execApplyComplete s
  | .readApplyReport tag => Sys2Proof.Machine.execReadApplyReport tag s
  | .setHall tag hall organiser tariff => Sys2Proof.Machine.execSetHall tag hall organiser tariff s
  | .readHall tag hall => Sys2Proof.Machine.execReadHall tag hall s
  | .setHallState tag hall state => Sys2Proof.Machine.execSetHallState tag hall state s
  | .joinHalls tag hall => Sys2Proof.Machine.execJoinHalls tag hall s
  | .splitHalls tag hall => Sys2Proof.Machine.execSplitHalls tag hall s
  | .beaconFrame hall => Sys2Proof.Machine.execBeaconFrame hall s
  | .matrixRetry tag => Sys2Proof.Machine.execMatrixRetry tag s
  | .readRoute tag destination => Sys2Proof.Machine.execReadRoute tag destination s
  | .readLink tag => Sys2Proof.Machine.execReadLink tag s
  | .matrixDone destination linkTag => Sys2Proof.Machine.execMatrixDone destination linkTag s
  | .matrixReject destination linkTag reason => Sys2Proof.Machine.execMatrixReject destination linkTag reason s
  | .matrixConfirmTimeout => Sys2Proof.Machine.execMatrixConfirmTimeout s
  | .matrixProbeDue => Sys2Proof.Machine.execMatrixProbeDue s
  | .present => Sys2Proof.Machine.execPresent s
  | .alert => Sys2Proof.Machine.execAlert s
  | .bbProbeDue console => Sys2Proof.Machine.execBbProbeDue console s
  | .bbPollReply segment reply => Sys2Proof.Machine.execBbPollReply segment reply s
  | .bbMalformedReply segment => Sys2Proof.Machine.execBbMalformedReply segment s
  | .bbReplyWindowExpiry segment => Sys2Proof.Machine.execBbReplyWindowExpiry segment s
  | .bbProbeReply segment reply => Sys2Proof.Machine.execBbProbeReply segment reply s
  | .readConsole tag console clear => Sys2Proof.Machine.execReadConsole tag console clear s
  | .readSegment tag segment => Sys2Proof.Machine.execReadSegment tag segment s
  | .forceMicOff tag console => Sys2Proof.Machine.execForceMicOff tag console s
  | .setRelay tag booth pick => Sys2Proof.Machine.execSetRelay tag booth pick s
  | .setBoothFloor tag booth mode window limit login snoop forced lock => Sys2Proof.Machine.execSetBoothFloor tag booth mode window limit login snoop forced lock s
  | .readBooth tag booth => Sys2Proof.Machine.execReadBooth tag booth s
  | .readChannel tag hall channel => Sys2Proof.Machine.execReadChannel tag hall channel s
  | .trefPulse => Sys2Proof.Machine.execTrefPulse s
  | .trefWatchExpiry => Sys2Proof.Machine.execTrefWatchExpiry s
  | .internalTick => Sys2Proof.Machine.execInternalTick s
  | .serviceMinute hall channel => Sys2Proof.Machine.execServiceMinute hall channel s
  | .handoverExpiry booth => Sys2Proof.Machine.execHandoverExpiry booth s
  | .dutyWarn console => Sys2Proof.Machine.execDutyWarn console s
  | .dutyOver console => Sys2Proof.Machine.execDutyOver console s
  | .pickupTimeout ticket => Sys2Proof.Machine.execPickupTimeout ticket s
  | .hireOverdue receiver => Sys2Proof.Machine.execHireOverdue receiver s
  | .hireLost receiver => Sys2Proof.Machine.execHireLost receiver s
  | .chargePoll => Sys2Proof.Machine.execChargePoll s
  | .rlScanDue rack => Sys2Proof.Machine.execRlScanDue rack s
  | .rlScanReply rack readings => Sys2Proof.Machine.execRlScanReply rack readings s
  | .rlReplyWindowExpiry => Sys2Proof.Machine.execRlReplyWindowExpiry s
  | .rlStartReply rack accepted => Sys2Proof.Machine.execRlStartReply rack accepted s
  | .rlResultDue rack => Sys2Proof.Machine.execRlResultDue rack s
  | .rlResultReply rack position outcome => Sys2Proof.Machine.execRlResultReply rack position outcome s
  | .contactAttemptTimeout rack => Sys2Proof.Machine.execContactAttemptTimeout rack s
  | .setRack tag rack role desk normal night => Sys2Proof.Machine.execSetRack tag rack role desk normal night s
  | .setSlot tag slot enable attention wake => Sys2Proof.Machine.execSetSlot tag slot enable attention wake s
  | .setScanProfile tag profile => Sys2Proof.Machine.execSetScanProfile tag profile s
  | .setChargePoll tag interval => Sys2Proof.Machine.execSetChargePoll tag interval s
  | .identifySlot tag slot => Sys2Proof.Machine.execIdentifySlot tag slot s
  | .readSlot tag slot => Sys2Proof.Machine.execReadSlot tag slot s
  | .readRack tag rack => Sys2Proof.Machine.execReadRack tag rack s
  | .registerReceiver tag serial => Sys2Proof.Machine.execRegisterReceiver tag serial s
  | .retireReceiver tag serial => Sys2Proof.Machine.execRetireReceiver tag serial s
  | .writeOff tag serial => Sys2Proof.Machine.execWriteOff tag serial s
  | .markFaulty tag serial => Sys2Proof.Machine.execMarkFaulty tag serial s
  | .clearFaulty tag serial => Sys2Proof.Machine.execClearFaulty tag serial s
  | .setPool tag threshold timeout => Sys2Proof.Machine.execSetPool tag threshold timeout s
  | .readQueue tag desk => Sys2Proof.Machine.execReadQueue tag desk s
  | .issue tag account hall desk language => Sys2Proof.Machine.execIssue tag account hall desk language s
  | .cancelTicket tag ticket => Sys2Proof.Machine.execCancelTicket tag ticket s
  | .readTicket tag ticket => Sys2Proof.Machine.execReadTicket tag ticket s
  | .readReceiver tag selector value => Sys2Proof.Machine.execReadReceiver tag selector value s
  | .readListening tag hall => Sys2Proof.Machine.execReadListening tag hall s
  | .openAccount tag account kind name1 name2 tariff credit cap hireEndPresent hireEnd preference => Sys2Proof.Machine.execOpenAccount tag account kind name1 name2 tariff credit cap hireEndPresent hireEnd preference s
  | .setAccount tag account name1 name2 tariff credit cap hireEndPresent hireEnd preference => Sys2Proof.Machine.execSetAccount tag account name1 name2 tariff credit cap hireEndPresent hireEnd preference s
  | .suspend tag account => Sys2Proof.Machine.execSuspend tag account s
  | .resume tag account => Sys2Proof.Machine.execResume tag account s
  | .close tag account => Sys2Proof.Machine.execClose tag account s
  | .retireAccount tag account => Sys2Proof.Machine.execRetireAccount tag account s
  | .readAccount tag account clear => Sys2Proof.Machine.execReadAccount tag account clear s
  | .setTariff tag tariff blockLength blockRate cap hireLimit overdueRate lostGrace deposit lostFee minuteRate => Sys2Proof.Machine.execSetTariff tag tariff blockLength blockRate cap hireLimit overdueRate lostGrace deposit lostFee minuteRate s
  | .readTariff tag tariff => Sys2Proof.Machine.execReadTariff tag tariff s
  | .postPayment tag account amount => Sys2Proof.Machine.execPostPayment tag account amount s
  | .freeze tag account => Sys2Proof.Machine.execFreeze tag account s
  | .thaw tag account => Sys2Proof.Machine.execThaw tag account s
  | .setClock tag clock => Sys2Proof.Machine.execSetClock tag clock s
  | .readClock tag => Sys2Proof.Machine.execReadClock tag s
  | .readCauses tag => Sys2Proof.Machine.execReadCauses tag s
  | .setEnables tag enables => Sys2Proof.Machine.execSetEnables tag enables s
  | .pulseAttn tag => Sys2Proof.Machine.execPulseAttn tag s
  | .attnPulseEnd => Sys2Proof.Machine.execAttnPulseEnd s
  | .readFaults tag => Sys2Proof.Machine.execReadFaults tag s
  | .resetLinks tag scope => Sys2Proof.Machine.execResetLinks tag scope s
  | .resetAll tag => Sys2Proof.Machine.execResetAll tag s

end Sys2Proof.Machine
end

