-- ==== Sys2Proof/Safety.lean ====
section
/-! DEFINITION. The words in which statements about the machine are made: the step goes on, the port answers, the state that an
answered request leaves, and the invariants. -/

namespace Sys2Proof.Safety

open Sys2Proof.Machine

/-- The step answers a next state: neither a fault nor a refusal. -/
def GoesOn (s : State) : Prop := ∃ t, step s = .next t

/-- The port answers exchanges normally: no reset recovery is in progress (R184). -/
def Ready (s : State) : Prop := s.cpi.recovery = none

/-- The state after a request that was answered normally: `u` are the records its owner left, the exchange delivered the response
held before, the new response is held, and the links have taken up what became ready (R181, R182). -/
def answered (s u : State) (code : Byte) (tag : Tag) (result : Result) (body : List Word) : State :=
  State.settle { u with cpi := { u.cpi with status := s.tau.statusByte false, delivered := some s.cpi.held,
                                            held := { result := result, code := code, tag := tag, body := body } } }

/-- Every condition fault is in the fault set exactly while its condition is present (R198). -/
def FaultsFollowConditions (s : State) : Prop := ∀ f ∈ conditionFaults, s.tau.hasFault f = s.condition f

/-- A matrix link that is UP and free has nothing to send (R48). -/
def LinkWorks (s : State) : Prop := s.rte.up = true → s.rte.outstanding = none → s.rte.urgent = [] ∧ s.rte.bulk = []

/-- Outside reset recovery a segment without a transaction has no console to poll and no probe due (R66, R67; during recovery it begins
nothing, log 33). -/
def SegmentsWork (s : State) : Prop :=
  Ready s → ∀ g < 2, (s.bbc.segment g).transaction = none → s.bbc.nextPoll g = none ∧ s.bbc.nextProbe g = none

/-- Outside reset recovery a rack line without an exchange has no RESULT and no SCAN fallen due and no START ready (R114; log 33). -/
def RackLineWorks (s : State) : Prop :=
  Ready s → s.rks.line = none → ∀ k < 16,
    (s.rack k).resultFell = none ∧ (s.rack k).nextScan.isFallen = false ∧ (s.rack k).ready = false

/-- The result is a refusal: it is none of OK, ACCEPTED, END, RESET_SEEN and BAD_FRAME (R187). -/
def isRefusal (r : Result) : Prop := r ≠ .ok ∧ r ≠ .accepted ∧ r ≠ .finished ∧ r ≠ .resetSeen ∧ r ≠ .badFrame

/-- A booth's token is held by a console of the booth (R87). -/
def HoldersAtHome (s : State) : Prop := ∀ b a, (s.booth b).holder = some a → boothOf a = b

/-- The token holder of a booth is kept through a change of plan: the booth's effective hall and the language of its direction are the
same, and the hall carries the language (R23). -/
abbrev BoothKept (old new : Pls) (b : Nat) (d : Direction) : Prop :=
  new.boothHall b = old.boothHall b ∧ (new.active.booth b).language d = (old.active.booth b).language d ∧
    ((new.active.booth b).language d).any (fun l => (new.effectivePlan (new.boothHall b)).carries l) = true

/-- An amount of money within its range (1.5.4). -/
def InMoney (x : Int) : Prop := -Config.balanceLimit ≤ x ∧ x ≤ Config.balanceLimit

/-- Every balance and held balance lies within the money range (R159, R169). -/
def BalancesInRange (s : State) : Prop := ∀ a, InMoney (s.account a).balance ∧ InMoney (s.account a).heldBalance

/-- The waiting entries of a directive list hold at most one of each kind but cues, and none is IDENT behind an offered head; the
list holds at most 6 entries, at most 4 of them cues (R76, R78). -/
def ListInOrder (l : Link) : Prop :=
  l.directives.length ≤ 6 ∧ l.directives.countP Directive.isCue ≤ 4 ∧
    (∀ k, k ≠ DirectiveKind.cue → l.waiting.countP (fun d => d.kind == k) ≤ 1) ∧
    (l.offered = true → l.waiting.countP (fun d => d.kind == .ident) = 0)

/-- The pending lists hold each destination at most once, exactly the PENDING ones; a destination that is not STUCK is PENDING exactly
while its confirmed source is not the desired one; the outstanding command is for a destination that is not STUCK (R43, R48). -/
def ListsFollowSources (s : State) : Prop :=
  (s.rte.urgent ++ s.rte.bulk).Nodup ∧ (∀ d ∈ s.rte.urgent ++ s.rte.bulk, d < 224) ∧
  (∀ d, (s.route d).status = .stuck → d < 224) ∧
  (∀ d < 224, (d ∈ s.rte.urgent ++ s.rte.bulk ↔ (s.route d).status = .pending) ∧
    ((s.route d).status ≠ .stuck → ((s.route d).status = .pending ↔ (s.route d).confirmed ≠ some (s.route d).desired))) ∧
  (∀ c, s.rte.outstanding = some c → c.destination < 224 ∧ (s.route c.destination).status ≠ .stuck)

/-- Apply marks stand on PENDING destinations only, the mark count is their number, and an operation is in flight exactly while it is
not 0 (R25, R26). -/
def MarksAreCounted (s : State) : Prop :=
  (∀ d < 224, (s.route d).mark = true → (s.route d).status = .pending) ∧
  s.pls.markCount = (List.range 224).countP (fun d => (s.route d).mark) ∧
  (s.pls.operation ≠ none ↔ s.pls.markCount ≠ 0)

/-- The routing map, its pending lists and its apply marks agree. -/
def RoutesInOrder (s : State) : Prop := ListsFollowSources s ∧ MarksAreCounted s

/-- A booth's token is held by a console of the booth exactly while that console is LIVE or WAIT_CHANNEL; its request list holds exactly
the consoles of the booth in WAIT_BOOTH, each once, and is empty while the token is free; a deadline runs only while the list is not empty
(R86, R87, R94, R96). -/
def TokensHeld (s : State) : Prop :=
  (∀ b a, (s.booth b).holder = some a ↔ boothOf a = b ∧ ((s.floor a).mic = .live ∨ (s.floor a).mic = .waitChannel)) ∧
  (∀ b a, a ∈ (s.booth b).requests ↔ boothOf a = b ∧ (s.floor a).mic = .waitBooth) ∧
  (∀ b, (s.booth b).requests.Nodup ∧ ((s.booth b).requests ≠ [] → (s.booth b).holder ≠ none) ∧
    ((s.booth b).deadline ≠ none → (s.booth b).requests ≠ []))

end Sys2Proof.Safety
end

