-- ==== Sys2Proof/Certificates/Slice0/Obligations.lean ====
section
/-! DEFINITION. The statements about the machine. A request that is answered is stated as the whole state it leaves
(`answered`, Safety.lean); where an operation reaches into several blocks, as the fields it changes and the blocks it leaves.
`Ready s` says that no reset recovery is in progress, the one condition under which the port answers (R183). -/

section

open Sys2Proof Sys2Proof.Machine Sys2Proof.Safety

/-! ## The machine as a whole -/

/-- A step executes the command at the front of the queue on the rest of it; on an empty queue the block idles (the second clause is
the model's choice, notes/assumptions 4). -/
def Obligations.StepRunsTheFrontCommand : Prop :=
  (∀ (c : Instr) (rest : List Instr) (s : State), s.pending = c :: rest → step s = exec c { s with pending := rest }) ∧
  (∀ s : State, s.pending = [] → step s = .next s)

/-- Every command, in every state, ends in a next state, and takes nothing from the queue behind it. (That a reset leaves the commands
waiting, which are outside the part, is the model's choice, notes/assumptions 6.) -/
def Obligations.EveryCommandGoesOn : Prop :=
  ∀ (c : Instr) (s : State), ∃ t, exec c s = .next t ∧ t.pending = s.pending

/-- Every step keeps each condition fault in the fault set exactly while its condition is present. -/
def Obligations.ConditionFaultsFollow : Prop :=
  ∀ s t : State, FaultsFollowConditions s → step s = .next t → FaultsFollowConditions t

/-- At reset the condition faults follow their conditions. -/
def Obligations.ConditionFaultsAtReset : Prop := FaultsFollowConditions State.reset

/-- After every command no free link has anything ready to send: neither the matrix link, nor, outside reset recovery, a segment or the
rack line (during recovery these two begin nothing, which is the model's choice, notes/assumptions 33). -/
def Obligations.NothingReadyWaits : Prop :=
  ∀ (c : Instr) (s t : State), exec c s = .next t → LinkWorks t ∧ SegmentsWork t ∧ RackLineWorks t

/-- What the links' taking up of work leaves as it was, and that taking it up a second time changes nothing. -/
def Obligations.SettlingKeepsTheRecords : Prop :=
  ∀ s : State,
    (s.settle.cpi = s.cpi ∧ s.settle.pls = s.pls ∧ s.settle.fla = s.fla ∧ s.settle.rpm = s.rpm ∧ s.settle.acu = s.acu ∧
      s.settle.pending = s.pending) ∧
    (s.settle.tau.clock = s.tau.clock ∧ s.settle.tau.internal = s.tau.internal ∧ s.settle.tau.watch = s.tau.watch ∧
      s.settle.tau.enables = s.tau.enables ∧ s.settle.tau.pulses = s.tau.pulses ∧ s.settle.tau.now = s.tau.now) ∧
    (∀ c, c ≠ Cause.faultSet → s.settle.tau.hasCause c = s.tau.hasCause c) ∧
    (s.settle.rte.urgent = s.rte.urgent ∧ s.settle.rte.bulk = s.rte.bulk ∧ s.settle.rte.up = s.rte.up ∧
      s.settle.rte.timeouts = s.rte.timeouts) ∧
    (∀ d, (s.settle.route d).desired = (s.route d).desired ∧ (s.settle.route d).confirmed = (s.route d).confirmed ∧
      (s.settle.route d).status = (s.route d).status ∧ (s.settle.route d).mark = (s.route d).mark) ∧
    (∀ a, { s.settle.link a with offered := (s.link a).offered } = s.link a) ∧
    (s.settle.rks.slots = s.rks.slots ∧ s.settle.rks.night = s.rks.night ∧
      s.settle.rks.pollInterval = s.rks.pollInterval ∧ s.settle.rks.pollCounter = s.rks.pollCounter) ∧
    (∀ k, (s.settle.rack k).jobs = (s.rack k).jobs ∧ (s.settle.rack k).desk = (s.rack k).desk ∧
      (s.settle.rack k).silent = (s.rack k).silent) ∧
    s.settle.settle = s.settle

/-- Every well-formed request of the host is read back from the bytes of its frame. -/
def Obligations.RequestFramesDecode : Prop :=
  ∀ (c : Instr) (r : Request), c.request = some r → c.wellFormed = true → decodeExchange r.frame = some c

/-- A refused request changes no record; a refused ISSUE returns the scan profile to NORMAL and changes nothing else. NOP and RESET
answer with a response that is not their own. -/
def Obligations.RefusalsChangeNothing : Prop :=
  ∀ (c : Instr) (r : Request) (s t : State), Ready s → c.request = some r → r.code ≠ 0x00 → r.code ≠ 0x96 →
    exec c s = .next t → isRefusal t.cpi.held.result →
    t = answered s (if r.code = 0x77 then s.setProfile false else s) r.code r.tag t.cpi.held.result t.cpi.held.body

/-- The coding of the fields of a request, value by value: indexes, WINDOW, none, FLOOR, SILENCE, on/off, every enumeration, ranges, labels
and name tags, an ill-formed one giving none; and of the fields of a response, every enumerated value by its position. The bytes shifted
out: the status byte, then of the response delivered the result's number, the body's length, code and tag, the body words most significant
byte first. The bits of an exchange: most significant first, sampled on the rising edge of CP_SCK, CP_DOUT changed on the falling edge, an
incomplete last byte discarded, nothing taken or driven while RESET_N is low. The characters of a link: least significant bit first, a run
cut off by a pause of more than two characters. (The value word of an absent hire end is notes/assumptions 44, the words of an absent value
42 and of an absent name tag 43, padding 26, the levels of a character 35, RESET_N at the pins 34, the first bit on CP_DOUT from the
beginning of the exchange and CP_DOUT undriven between exchanges 47: the model's choices.) -/
def Obligations.OperandForms : Prop :=
  (∀ (window : Nat) (w : Word), hallField window w =
    if w = 0xFFFFFFFC then some window else if w.toNat < 6 then some w.toNat else none) ∧
  (∀ (n : Nat) (w : Word), optBelow n w =
    if w = 0xFFFFFFFF then some none else if w.toNat < n then some (some w.toNat) else none) ∧
  (∀ w : Word, pickField w =
    if w = 0xFFFFFFFE then some .floor else if w.toNat < 48 then some (.language w.toNat) else none) ∧
  (∀ w : Word, fallbackField w =
    if w = 0xFFFFFFFE then some .floor else if w = 0xFFFFFFFD then some .silence
    else if w.toNat < 48 then some (.language w.toNat) else none) ∧
  (∀ w : Word, onOff w = if w = 0 then some false else if w = 1 then some true else none) ∧
  (∀ (lo hi : Nat) (w : Word), within lo hi w = if lo ≤ w.toNat ∧ w.toNat ≤ hi then some w.toNat else none) ∧
  (∀ w : Word, widthField w =
    if w = 8 then some 8 else if w = 16 then some 16 else if w = 24 then some 24 else if w = 32 then some 32 else none) ∧
  (∀ w : Word, hallStateField w =
    if w = 0 then some .live else if w = 1 then some .quiet else if w = 2 then some .floorAll else if w = 3 then some .tone
    else none) ∧
  (∀ w : Word, kindField w =
    if w = 0 then some .delegate else if w = 1 then some .delegation else if w = 2 then some .organiser
    else if w = 3 then some .interpreter else none) ∧
  (∀ w : Word, modeField w =
    if w = 0 then some .exclusive else if w = 1 then some .handover else if w = 2 then some .override else none) ∧
  (∀ w : Word, interlockField w = if w = 0 then some .firstHolds else if w = 1 then some .lastTakes else none) ∧
  (∀ w : Word, directionField w = if w = 0 then some .a else if w = 1 then some .b else none) ∧
  (∀ w : Word, tableField w =
    if w = 0 then some .languages else if w = 1 then some .booths else if w = 2 then some .consoles
    else if w = 3 then some .routes else if w = 4 then some .slots else if w = 5 then some .receivers
    else if w = 6 then some .tickets else if w = 7 then some .accounts else none) ∧
  (∀ w : Word, intervalField w =
    if w.toNat ∈ [20, 40, 80, 160, 320, 640, 1280, 2560] then some w.toNat else none) ∧
  (∀ role desk : Word, deskField role desk =
    if role = 0 then (if desk.toNat < 4 then some (some desk.toNat) else none) else if role = 1 then some none else none) ∧
  (∀ present value : Word, optClock present value =
    if present = 0 then some none else if present = 1 then some (some value.toNat) else none) ∧
  (∀ (w : Word) (t : Text), labelField w = some t ↔ 1 ≤ t.length ∧ t.length ≤ 4 ∧
    (∀ c ∈ t, (65 ≤ c.toNat ∧ c.toNat ≤ 90) ∨ (48 ≤ c.toNat ∧ c.toNat ≤ 57)) ∧
    w = bytesWord (t.getD 0 0) (t.getD 1 0) (t.getD 2 0) (t.getD 3 0)) ∧
  (∀ (v w : Word) (t : Text), nameField v w = some t ↔ 1 ≤ t.length ∧ t.length ≤ 8 ∧
    (∀ c ∈ t, (65 ≤ c.toNat ∧ c.toNat ≤ 90) ∨ (48 ≤ c.toNat ∧ c.toNat ≤ 57) ∨ c = 45) ∧
    v = bytesWord (t.getD 0 0) (t.getD 1 0) (t.getD 2 0) (t.getD 3 0) ∧
    w = bytesWord (t.getD 4 0) (t.getD 5 0) (t.getD 6 0) (t.getD 7 0)) ∧
  (∀ a b c d : Byte, (bytesWord a b c d).toNat = ((a.toNat * 256 + b.toNat) * 256 + c.toNat) * 256 + d.toNat) ∧
  (∀ c : Cpi, c.shiftedOut = match c.delivered with
    | none => [c.status]
    | some r => [c.status, BitVec.ofNat 8 r.result.number, BitVec.ofNat 8 r.body.length, r.code,
        r.tag.extractLsb' 8 8, r.tag.extractLsb' 0 8] ++
        r.body.flatMap fun w => [w.extractLsb' 24 8, w.extractLsb' 16 8, w.extractLsb' 8 8, w.extractLsb' 0 8]) ∧
  ([.ok, .accepted, .finished, .resetSeen, .badFrame, .badValue, .badState, .busy, .duplicate, .full, .inUse, .badLanguage,
    .staleDraft, .badChannel, .badFallback, .badBooth, .feeders, .joined, .notJoined, .notLive, .notCarried, .hallNotLive,
    .accountState, .unitCap, .credit, .noLanguage, .ticketsFull, .noTicket, .noReceiver, .docked, .notPresent, .unsettled,
    .noList, .selfRelay, .relayDepth, .locked, .loggedIn, .notLogged, .noChannel, .boothBusy, .channelBusy, .noUnit,
    .tooLate, .openHire, .fallbackLoop].map Result.number = List.range 45) ∧
  (∀ (b : Byte) (i : Nat), i < 8 → (byteBits b)[i]? = some (b.getLsbD (7 - i))) ∧
  (∀ (frame : List Byte) (rest : List Bool), rest.length < 8 → bitsBytes (frame.flatMap byteBits ++ rest) = frame) ∧
  (∀ bits : List Bool, decodeBits bits = decodeExchange (bitsBytes bits)) ∧ decodeExchange [] = none ∧
  (∀ (r : PortReader) (p : PortLevels), p.resetN = false → (r.next p).2 = none) ∧
  (∀ (c : Cpi) (n : Nat), c.dout false n = none ∧ c.dout true n = some ((c.shiftedOut.flatMap byteBits).getD n false)) ∧
  -- the fields of a response
  ((∀ n : Nat, natWord n = BitVec.ofNat 32 n ∧ optWord (some n) = natWord n) ∧ optWord none = 0xFFFFFFFF ∧
    boolWord false = 0 ∧ boolWord true = 1 ∧ presenceWords none = [0, 0] ∧ (∀ w : Word, presenceWords (some w) = [1, w]) ∧
    labelWords none = [0xFFFFFFFF] ∧ nameWords none = [0xFFFFFFFF, 0xFFFFFFFF] ∧
    (∀ t : Text, labelWords (some t) = [bytesWord (t.getD 0 0) (t.getD 1 0) (t.getD 2 0) (t.getD 3 0)] ∧
      nameWords (some t) = [bytesWord (t.getD 0 0) (t.getD 1 0) (t.getD 2 0) (t.getD 3 0),
        bytesWord (t.getD 4 0) (t.getD 5 0) (t.getD 6 0) (t.getD 7 0)]) ∧
    (∀ x : Int, -2147483648 ≤ x → x ≤ 2147483647 → moneyWord x = BitVec.ofInt 32 x) ∧
    (∀ (f : Nat → List Word) (l : List Nat), listWords f l = natWord l.length :: l.flatMap f) ∧
    Pick.floor.word = 0xFFFFFFFE ∧ (∀ l, (Pick.language l).word = natWord l) ∧
    Fallback.floor.word = 0xFFFFFFFE ∧ Fallback.silence.word = 0xFFFFFFFD ∧ (∀ l, (Fallback.language l).word = natWord l) ∧
    confirmedWord none = 255 ∧ (∀ x : Source, confirmedWord (some x) = natWord x.number) ∧
    (∀ n, (Source.floor n).number = n ∧ (Source.booth n).number = 8 + n ∧ (Source.bus n).number = 40 + n) ∧
    Source.tone.number = 6 ∧ Source.silence.number = 7) ∧
  -- enumerated values of a response, by their positions
  ([HallState.live, .quiet, .floorAll, .tone].map HallState.word = [0, 1, 2, 3] ∧
    [Interlock.firstHolds, .lastTakes].map Interlock.word = [0, 1] ∧
    [ApplyKind.commit, .join, .split].map ApplyKind.position = [0, 1, 2] ∧ [Ending.complete, .aborted].map Ending.word = [0, 1] ∧
    [RouteStatus.settled, .pending, .stuck].map RouteStatus.position = [0, 1, 2] ∧
    [LinkState.absent, .online, .suspect, .offline].map LinkState.position = [0, 1, 2, 3] ∧
    [Direction.a, .b].map Direction.word = [0, 1] ∧
    [MicState.off, .waitBooth, .waitChannel, .live].map MicState.word = [0, 1, 2, 3] ∧
    [Mode.exclusive, .handover, .override].map Mode.word = [0, 1, 2] ∧
    [OffReason.released, .forced, .override, .handover, .channelTaken, .channelBusy, .noChannel, .logout, .offline, .planCut,
      .hallTest, .join, .split].map OffReason.position = List.range 13 ∧
    [JobKind.identify, .preset, .latchOpen, .latchClose].map JobKind.position = [0, 1, 2, 3] ∧
    [JobOrigin.arrival, .poll, .host, .rpm, .reset].map JobOrigin.word = [0, 1, 2, 3, 4] ∧
    [SlotState.disabled, .empty, .settling, .ident, .occupied, .foreign, .issuing, .fault].map SlotState.position = List.range 8 ∧
    [Presence.present, .absent, .unsettled].map Presence.word = [0, 1, 2] ∧
    [some true, some false, none].map candidateWord = [0, 1, 0xFFFFFFFF] ∧
    [Latch.closed, .opened, .unknown].map Latch.word = [0, 1, 2] ∧
    [ReceiverState.free, .stock, .charging, .ready, .issuing, .issued, .overdue, .lost, .loose, .faulty].map
      ReceiverState.position = List.range 10 ∧
    [TicketState.presetting, .awaitPickup, .done, .notTaken, .failed, .cancelled, .aborted].map TicketState.position =
      List.range 7 ∧
    [Machine.Step.presetWait, .presetOwed, .latchWait, .latchOwed].map Machine.Step.position = [0, 1, 2, 3] ∧
    [TicketEnding.pickedUp, .timedOut, .noUnit, .unitFailed, .cancelled, .reset].map TicketEnding.position = List.range 6 ∧
    [AccountState.free, .opened, .suspended, .closed].map AccountState.position = [0, 1, 2, 3] ∧
    [AccountKind.delegate, .delegation, .organiser, .interpreter].map AccountKind.word = [0, 1, 2, 3]) ∧
  -- the edges of CP_SCK in an exchange, and a whole exchange at the pins, whichever level the clock idles at
  (∀ (c : Cpi) (r : PortReader) (p : PortLevels), p.resetN = false ∨ p.selN = true → c.driven (r.next p).1 = none) ∧
  (∀ (c : Cpi) (r : PortReader) (p : PortLevels) (bits : List Bool), r.bits = some bits → r.selN = false → p.selN = false →
    p.resetN = true →
    (r.next p).1.bits = some (if r.sck = false ∧ p.sck = true then bits ++ [p.din] else bits) ∧
    c.driven (r.next p).1 = if r.sck = true ∧ p.sck = false then c.dout true bits.length else c.driven r) ∧
  (∀ (c : Cpi) (r : PortReader) (idle : Bool) (bits : List Bool), r.selN = true →
    let level := fun selN sck din : Bool => ({ selN := selN, sck := sck, din := din, resetN := true } : PortLevels)
    let clocked := bits.flatMap fun b => [level false false b, level false true b]
    portCommands r (level false idle false :: clocked ++ [level true idle false]) = (decodeBits bits).toList ∧
    c.drivenLevels r (level false idle false :: clocked) =
      c.dout true 0 :: (List.range bits.length).flatMap fun i => [c.dout true i, c.dout true i]) ∧
  (∀ b : Byte, charBits b = false :: ((byteBits b).reverse ++ [true])) ∧
  (∀ frame : List Byte, unbrokenRun (readChars 0 (lineBits frame)) = frame) ∧
  (∀ (frame : List Byte) (pause : Nat) (rest : List Bool), frame ≠ [] → 20 < pause →
    unbrokenRun (readChars 0 (lineBits frame ++ List.replicate pause true ++ rest)) = frame) ∧
  (∀ (g : Fin 2) (probe : Bool) (bits : List Bool), unbrokenRun (readChars 0 bits) ≠ [] →
    (takeFrame replyLength (unbrokenRun (readChars 0 bits))).bind decodeReply = none →
    boothCommand g probe bits = some (.bbMalformedReply g))

/-! ## Resets and the control port -/

/-- What the machine holds right after a hard reset, record by record, where the manual gives the value: every field of every record of the
language table, the plans, the halls, the routing map and its lists, the links and the segments, the floor, the racks and slots, the
receivers and tickets, the accounts and tariffs, the timebase. The routing lists, the marks and the booth tokens are in order. -/
def Obligations.ResetContents : Prop :=
  let z := State.reset
  (z.cpi.window = 0 ∧ z.cpi.cursor = none ∧ ∃ r, z.cpi.recovery = some r ∧ r.code = 0 ∧ r.tag = 0) ∧
  ((∀ l, z.label l = none) ∧ z.pls.draftVersion = 0 ∧ z.pls.planVersion = 0 ∧ z.pls.operation = none ∧
    z.pls.markCount = 0 ∧ z.pls.report.kind = none ∧ z.pls.report.ending = .complete ∧ z.pls.report.version = 0 ∧
    z.pls.report.hallsChanged = 0 ∧ z.pls.report.stuck = 0 ∧ z.pls.report.relayResets = 0 ∧ z.pls.report.planCuts = 0) ∧
  (∀ h c, (z.pls.draft.hall h).width = 32 ∧ (z.pls.active.hall h).width = 32 ∧
    (z.pls.draft.hall h).entry c = { language := none, fallback := .floor, interlock := .firstHolds } ∧
    (z.pls.active.hall h).entry c = { language := none, fallback := .floor, interlock := .firstHolds }) ∧
  (∀ b, z.pls.active.booth b = { home := min (b / 6) 5, a := none, b := none, relay := .floor } ∧
    z.pls.draft.booth b = { home := min (b / 6) 5, a := none, b := none, relay := .floor }) ∧
  (∀ h, (z.hall h).state = .quiet ∧ (z.hall h).joined = false ∧ (z.hall h).organiser = none ∧ (z.hall h).tariff = 0 ∧
    (z.hall h).beaconOn = false ∧ (z.hall h).mapVersion = 0 ∧ ∀ c, (z.hall h).announced.lookup c = none) ∧
  (∀ d, z.route d = { desired := .silence, confirmed := none, status := .pending, mark := false, attempts := 0 }) ∧
  (z.rte.up = true ∧ z.rte.outstanding = none ∧ z.rte.urgent = [] ∧ z.rte.bulk = List.range 224 ∧ z.rte.timeouts = 0 ∧
    z.rte.nextTag = 0) ∧
  (∀ a, z.link a = { state := .absent, misses := 0, identPending := false, directiveBit := false, acceptedBit := false,
                     stored := .none, answer := .none, directives := [], offered := false, errors := 0 }) ∧
  (∀ g < 2, (z.bbc.segment g).position = 48 * g ∧ (z.bbc.segment g).silentRounds = 0 ∧ (z.bbc.segment g).silent = false ∧
    (z.bbc.segment g).transaction = none ∧ ∀ a, ((z.bbc.segment g).probe a).isFallen = true) ∧
  (∀ a, (z.floor a).mic = .off ∧ (z.floor a).switch = .a ∧ (z.floor a).login = none ∧ (z.floor a).dutyTimer = 0 ∧
    (z.floor a).dutyWarned = false ∧ (z.floor a).dutyOver = false) ∧
  (∀ b, z.booth b = { mode := .exclusive, window := 0, dutyLimit := 30, loginRequired := false, snoop := true, forced := .a,
                      relayLock := false, pick := .floor, holder := none, requests := [], deadline := none,
                      direction := .a }) ∧
  (∀ k, z.token k = { holder := none, waits := [], service := 0 }) ∧
  (∀ k, (z.rack k).desk = none ∧ (z.rack k).normal = 160 ∧ (z.rack k).night = 1280 ∧ (z.rack k).silent = false ∧
    (z.rack k).missed = 0 ∧ (z.rack k).nextScan.isFallen = true ∧ (z.rack k).jobs = [] ∧ (z.rack k).attempt = none) ∧
  (∀ k, z.slot k = { state := .disabled, occupant := none, presence := .absent, candidate := none, latch := .closed,
                     attention := false, wake := false }) ∧
  (z.rks.night = false ∧ z.rks.pollInterval = 60 ∧ z.rks.pollCounter = 0) ∧
  (∀ r, z.receiver r = { serial := none, state := .free, slot := none, battery := none, readyTime := 0, ticket := none,
                         hire := none }) ∧
  (z.rpm.threshold = 90 ∧ z.rpm.pickupTimeout = 30 ∧ (∀ d, z.queue d = []) ∧ (∀ t, z.ticket t = none) ∧
    ∀ h l, z.listening h l = 0) ∧
  (∀ a, z.account a = { state := .free, kind := .delegate, name := none, tariff := 0, creditLimit := 0, unitCap := 0,
                        hireEnd := none, preference := none, balance := 0, heldBalance := 0, deposit := 0, unitsHeld := 0,
                        unitsPending := 0, liveSeconds := 0, serviceSeconds := 0, heldSeconds := 0, console := none,
                        frozen := false }) ∧
  (∀ f, z.tariff f = { blockLength := 60, blockRate := 0, cap := 0, hireLimit := 24, overdueRate := 0, lostGrace := 24,
                       deposit := 0, lostFee := 0, minuteRate := 0 }) ∧
  (z.tau.clock = 0 ∧ z.tau.internal = false ∧ z.tau.causes = 1 ∧ z.tau.enables = 0 ∧ z.tau.faults = 1) ∧
  RoutesInOrder z ∧ TokensHeld z

/-- HARD_RESET leaves the reset contents, with the matrix link at work and the commands waiting kept (notes/assumptions 6);
RESET_RECOVERY_END holds RESET_SEEN with the echo of what reset the part and, after a hard reset or a RESET of scope ALL, starts the TREF
watch at its moment (notes/assumptions 4). What is held during recovery is notes/assumptions 7. -/
def Obligations.ResetAndRecovery : Prop :=
  (∀ s : State, exec .hardReset s = .next (State.settle { State.reset with pending := s.pending })) ∧
  (∀ (s : State) (r : Recovery), s.cpi.recovery = some r → ∃ t, exec .resetRecoveryEnd s = .next t ∧
    t.cpi = { s.cpi with recovery := none, held := { result := .resetSeen, code := r.code, tag := r.tag, body := [] } } ∧
    t.tau.watch = (if r.startsWatch then some (max s.tau.now r.ends + 1500) else s.tau.watch) ∧
    t.tau.clock = s.tau.clock ∧ t.pls = s.pls ∧ t.fla = s.fla ∧ t.rpm = s.rpm ∧ t.acu = s.acu)

/-- During reset recovery every exchange, whatever it carries, is answered NOT_READY and discarded: no response is delivered and the
held one stays. An exchange that meets the request before it in execution is answered alike, in any state: that NOT_READY_EXCHANGE is taken
in any state is the model's choice (notes/assumptions 16). -/
def Obligations.RecoveryDiscardsExchanges : Prop :=
  (∀ (c : Instr) (r : Request) (s : State), c.request = some r → s.cpi.recovery ≠ none → exec c s =
    .next (State.settle { s with cpi := { s.cpi with status := s.tau.statusByte true, delivered := none } })) ∧
  (∀ (frame : List Byte) (s : State), frame ≠ [] → frameReason frame ≠ none → s.cpi.recovery ≠ none →
    exec (.frameError frame) s =
      .next (State.settle { s with cpi := { s.cpi with status := s.tau.statusByte true, delivered := none } })) ∧
  (∀ s : State, exec .notReadyExchange s =
    .next (State.settle { s with cpi := { s.cpi with status := s.tau.statusByte true, delivered := none } }))

/-- A frame error is answered BAD_FRAME with its reason and the code and tag as received, and enters FRAME in the fault set. The
reason is that of the first check that fails. -/
def Obligations.FrameErrorsAreAnswered : Prop :=
  (∀ (frame : List Byte) (e : FrameReason) (s : State), Ready s → frame ≠ [] → frameReason frame = some e →
    exec (.frameError frame) s =
      .next (answered s { s with tau := s.tau.enter .frame } (frame.getD 0 0) (bytesHalf (frame.getD 2 0) (frame.getD 3 0))
        .badFrame [frameReasonNumber e])) ∧
  (∀ frame : List Byte, frame.length % 4 ≠ 0 → frameReason frame = some .ragged) ∧
  (∀ (code len t1 t0 : Byte) (body : List Byte), body.length % 4 = 0 →
    frameReason (code :: len :: t1 :: t0 :: body) =
      if body.length / 4 < len.toNat then some .short
      else if catalogueLength code.toNat = none then some .code
      else if catalogueLength code.toNat ≠ some len.toNat ∨ len.toNat < body.length / 4 then some .length
      else none)

/-- NOP leaves the held response as it stands: its own exchange delivers it, and the next delivers it again. One answered NOT_READY
is discarded. After a reset it fetches RESET_SEEN, after a frame error BAD_FRAME. -/
def Obligations.NopRepeatsTheResponse : Prop :=
  (∀ (tag : Tag) (s : State), Ready s → exec (.nop tag) s =
    .next (State.settle { s with cpi := { s.cpi with status := s.tau.statusByte false, delivered := some s.cpi.held } })) ∧
  (∀ (tag : Tag) (s : State), s.cpi.recovery ≠ none → exec (.nop tag) s =
    .next (State.settle { s with cpi := { s.cpi with status := s.tau.statusByte true, delivered := none } })) ∧
  (∀ (tag : Tag) (r : Recovery) (s t u : State), s.cpi.recovery = some r → exec .resetRecoveryEnd s = .next t →
    exec (.nop tag) t = .next u → (u.cpi.delivered.map Response.result) = some .resetSeen ∧ u.cpi.held = t.cpi.held) ∧
  (∀ (tag : Tag) (frame : List Byte) (s t u : State), Ready s → frame ≠ [] → frameReason frame ≠ none →
    exec (.frameError frame) s = .next t → exec (.nop tag) t = .next u →
    (u.cpi.delivered.map Response.result) = some .badFrame ∧ u.cpi.held = t.cpi.held)

/-- SELECT_HALL moves the hall window within H0 to H5. OPEN_LIST opens the cursor on a table at a start index of the table with a
filter over its states, and is refused BAD_VALUE otherwise. NEXT gives the first record at or above the position whose state is in
the filter and moves the position behind it; where there is none it gives END with the table size; without a cursor it is refused
NO_LIST. An empty filter holds every state, another those whose bits it sets; the eight tables with their sizes, the states of their
records and the summaries that NEXT returns of them. (The order of the words of a summary is that of R190's table, notes/assumptions 8:
the model's reading.) -/
def Obligations.WindowAndCursor : Prop :=
  (∀ (tag : Tag) (hall : Word) (s : State), Ready s → hall.toNat < 6 → exec (.selectHall tag hall) s =
    .next (answered s { s with cpi := { s.cpi with window := hall.toNat } } 0x01 tag .ok [natWord hall.toNat])) ∧
  (∀ (tag : Tag) (hall : Word) (s : State), Ready s → 6 ≤ hall.toNat →
    exec (.selectHall tag hall) s = .next (answered s s 0x01 tag .badValue [])) ∧
  (∀ (tag : Tag) (table start filter : Word) (k : ListTable) (s : State), Ready s → tableField table = some k →
    start.toNat < k.size → filter.toNat < 2 ^ k.states →
    exec (.openList tag table start filter) s =
      .next (answered s
        { s with cpi := { s.cpi with cursor := some { table := k, filter := filter, position := start.toNat } } }
        0x02 tag .ok [])) ∧
  (∀ (tag : Tag) (table start filter : Word) (s : State), Ready s →
    (tableField table = none ∨ ∃ k, tableField table = some k ∧ (k.size ≤ start.toNat ∨ 2 ^ k.states ≤ filter.toNat)) →
    exec (.openList tag table start filter) s = .next (answered s s 0x02 tag .badValue [])) ∧
  (∀ (tag : Tag) (s : State), Ready s → s.cpi.cursor = none →
    exec (.nextRecord tag) s = .next (answered s s 0x03 tag .noList [])) ∧
  (∀ (tag : Tag) (c : Cursor) (i : Nat) (s : State), Ready s → s.cpi.cursor = some c → c.position ≤ i → i < c.table.size →
    (∃ p, s.recordState c.table i = some p ∧ inFilter c.filter p = true) →
    (∀ j, c.position ≤ j → j < i → ∀ p, s.recordState c.table j = some p → inFilter c.filter p = false) →
    exec (.nextRecord tag) s =
      .next (answered s { s with cpi := { s.cpi with cursor := some { c with position := i + 1 } } } 0x03 tag .ok
        (s.summary c.table i))) ∧
  (∀ (tag : Tag) (c : Cursor) (s : State), Ready s → s.cpi.cursor = some c →
    (∀ j, c.position ≤ j → j < c.table.size → ∀ p, s.recordState c.table j = some p → inFilter c.filter p = false) →
    exec (.nextRecord tag) s =
      .next (answered s { s with cpi := { s.cpi with cursor := some { c with position := c.table.size } } } 0x03 tag .finished
        [natWord c.table.size])) ∧
  -- the filter; the tables, their sizes and states (R189)
  (∀ (filter : Word) (p : Nat), inFilter filter p = true ↔ filter = 0 ∨ filter.getLsbD p = true) ∧
  (∀ tables : List ListTable, tables = [.languages, .booths, .consoles, .routes, .slots, .receivers, .tickets, .accounts] →
    tables.map ListTable.size = [48, 32, 96, 224, 640, 4096, 8, 512] ∧ tables.map ListTable.states = [2, 3, 4, 3, 8, 10, 7, 4]) ∧
  (∀ (s : State) (i : Nat),
    s.recordState .languages i = some (if s.label i = none then 0 else 1) ∧
    s.recordState .booths i =
      some (if (s.pls.active.booth i).a = none then 0 else if (s.booth i).holder ≠ none then 2 else 1) ∧
    s.recordState .consoles i = some (s.link i).state.position ∧ s.recordState .routes i = some (s.route i).status.position ∧
    s.recordState .slots i = some (s.slot i).state.position ∧ s.recordState .receivers i = some (s.receiver i).state.position ∧
    s.recordState .accounts i = some (s.account i).state.position ∧
    (s.ticket i = none → s.recordState .tickets i = none) ∧
    (∀ x, s.ticket i = some x → s.recordState .tickets i = some x.state.position)) ∧
  -- the summaries (R190)
  (∀ (s : State) (i : Nat),
    s.summary .languages i = [natWord i, if s.label i = none then 0 else 1] ++ labelWords (s.label i) ∧
    s.summary .booths i =
      [natWord i, if (s.pls.active.booth i).a = none then 0 else if (s.booth i).holder ≠ none then 2 else 1,
        natWord (s.pls.boothHall i), optWord (s.booth i).holder, (s.booth i).direction.word, (s.booth i).pick.word] ∧
    s.summary .consoles i = [natWord i, natWord (s.link i).state.position, (s.floor i).mic.word, optWord (s.floor i).login,
      natWord (s.link i).errors] ∧
    s.summary .routes i = [natWord i, natWord (s.route i).status.position, natWord (s.route i).desired.number,
      confirmedWord (s.route i).confirmed, boolWord (s.route i).mark] ∧
    s.summary .slots i = [natWord i, natWord (s.slot i).state.position, optWord (s.slot i).occupant, (s.slot i).latch.word] ∧
    s.summary .receivers i = [natWord i, natWord (s.receiver i).state.position] ++ presenceWords (s.receiver i).serial ++
      [optWord (s.receiver i).slot, optWord ((s.receiver i).hire.map Hire.account)] ∧
    (∀ x, s.ticket i = some x →
      s.summary .tickets i = [natWord i, natWord x.state.position, natWord x.account, optWord x.receiver]) ∧
    s.summary .accounts i = [natWord i, natWord (s.account i).state.position, (s.account i).kind.word] ++
      nameWords (s.account i).name ++ [moneyWord (s.account i).balance])

/-! ## Languages and the channel plan -/

/-- DEFINE_LANGUAGE checks the label, then an equal label, then room, and takes the lowest FREE slot. RETIRE_LANGUAGE frees a slot
that nothing names, and is refused IN_USE with the kind of the first holder. -/
def Obligations.LanguageTable : Prop :=
  (∀ (tag : Tag) (label : Word) (s : State), Ready s → labelField label = none →
    exec (.defineLanguage tag label) s = .next (answered s s 0x10 tag .badValue [])) ∧
  (∀ (tag : Tag) (label : Word) (text : Text) (s : State), Ready s → labelField label = some text →
    (∃ l < 48, s.label l = some text) →
    exec (.defineLanguage tag label) s = .next (answered s s 0x10 tag .duplicate [])) ∧
  (∀ (tag : Tag) (label : Word) (text : Text) (s : State), Ready s → labelField label = some text →
    (∀ l < 48, s.label l ≠ some text) → (∀ l < 48, s.label l ≠ none) →
    exec (.defineLanguage tag label) s = .next (answered s s 0x10 tag .full [])) ∧
  (∀ (tag : Tag) (label : Word) (text : Text) (l : Nat) (s : State), Ready s → labelField label = some text →
    (∀ k < 48, s.label k ≠ some text) → l < 48 → s.label l = none → (∀ k < l, s.label k ≠ none) →
    exec (.defineLanguage tag label) s =
      .next (answered s { s with pls := { s.pls with languages := s.pls.languages.insert l text } } 0x10 tag .ok
        [natWord l])) ∧
  (∀ (tag : Tag) (slot : Word) (s : State), Ready s → slot.toNat < 48 → s.label slot.toNat ≠ none →
    s.languageHolder slot.toNat = none →
    exec (.retireLanguage tag slot) s =
      .next (answered s { s with pls := { s.pls with languages := s.pls.languages.erase slot.toNat } } 0x11 tag .ok [])) ∧
  (∀ (tag : Tag) (slot : Word) (k : Nat) (s : State), Ready s → slot.toNat < 48 → s.label slot.toNat ≠ none →
    s.languageHolder slot.toNat = some k →
    exec (.retireLanguage tag slot) s = .next (answered s s 0x11 tag .inUse [natWord k]))

/-- SET_WIDTH: the width of the hall's DRAFT hall part takes the value given, the entries stay, the draft version rises by one and
is returned; a hall above 5 or another width is refused BAD_VALUE. -/
def Obligations.WidthIsSet : Prop :=
  (∀ (tag : Tag) (hall width : Word) (h : Nat) (s : State), Ready s → hallField s.cpi.window hall = some h →
    (width.toNat = 8 ∨ width.toNat = 16 ∨ width.toNat = 24 ∨ width.toNat = 32) →
    exec (.setWidth tag hall width) s =
      .next (answered s
        { s with pls := { s.pls with
          draft := s.pls.draft.setHall h { s.pls.draft.hall h with width := width.toNat }
          draftVersion := s.pls.draftVersion + 1 } }
        0x12 tag .ok [natWord (s.pls.draftVersion + 1).toNat])) ∧
  (∀ (tag : Tag) (hall width : Word) (s : State), Ready s →
    (hallField s.cpi.window hall = none ∨
      (width.toNat ≠ 8 ∧ width.toNat ≠ 16 ∧ width.toNat ≠ 24 ∧ width.toNat ≠ 32)) →
    exec (.setWidth tag hall width) s = .next (answered s s 0x12 tag .badValue [])) ∧
  (∀ (window : Nat) (hall : Word), hallField window hall =
    if hall = windowWord then some window else if hall.toNat < 6 then some hall.toNat else none)

/-- SET_CHANNEL: the three fields of the entry of the DRAFT hall part are replaced together, whatever the named slots and the width,
and the draft version rises by one; a field out of range is refused BAD_VALUE. -/
def Obligations.ChannelIsSet : Prop :=
  (∀ (tag : Tag) (hall channel language fallback interlock : Word) (h : Nat) (l : Option Nat) (f : Fallback) (i : Interlock)
    (s : State), Ready s → hallField s.cpi.window hall = some h → 1 ≤ channel.toNat → channel.toNat ≤ 31 →
    optBelow 48 language = some l → fallbackField fallback = some f → interlockField interlock = some i →
    exec (.setChannel tag hall channel language fallback interlock) s =
      .next (answered s
        { s with pls := { s.pls with
          draft := s.pls.draft.setHall h
            ((s.pls.draft.hall h).setEntry channel.toNat { language := l, fallback := f, interlock := i })
          draftVersion := s.pls.draftVersion + 1 } }
        0x13 tag .ok [natWord (s.pls.draftVersion + 1).toNat])) ∧
  (∀ (tag : Tag) (hall channel language fallback interlock : Word) (s : State), Ready s →
    (hallField s.cpi.window hall = none ∨ channel.toNat = 0 ∨ 31 < channel.toNat ∨ optBelow 48 language = none ∨
      fallbackField fallback = none ∨ interlockField interlock = none) →
    exec (.setChannel tag hall channel language fallback interlock) s = .next (answered s s 0x13 tag .badValue [])) ∧
  (∀ (window : Nat) (hall : Word), hallField window hall =
    if hall = windowWord then some window else if hall.toNat < 6 then some hall.toNat else none)

/-- SET_BOOTH_PLAN: the four fields of the DRAFT booth part are replaced together and the draft version rises by one; a booth above
31, a home hall above 5 or a slot above 47 is refused BAD_VALUE. -/
def Obligations.BoothPlanIsSet : Prop :=
  (∀ (tag : Tag) (booth home a b relay : Word) (la lb : Option Nat) (r : Pick) (s : State), Ready s → booth.toNat < 32 →
    home.toNat < 6 → optBelow 48 a = some la → optBelow 48 b = some lb → pickField relay = some r →
    exec (.setBoothPlan tag booth home a b relay) s =
      .next (answered s
        { s with pls := { s.pls with
          draft := s.pls.draft.setBooth booth.toNat { home := home.toNat, a := la, b := lb, relay := r }
          draftVersion := s.pls.draftVersion + 1 } }
        0x14 tag .ok [natWord (s.pls.draftVersion + 1).toNat])) ∧
  (∀ (tag : Tag) (booth home a b relay : Word) (s : State), Ready s →
    (31 < booth.toNat ∨ 5 < home.toNat ∨ optBelow 48 a = none ∨ optBelow 48 b = none ∨ pickField relay = none) →
    exec (.setBoothPlan tag booth home a b relay) s = .next (answered s s 0x14 tag .badValue []))

/-- CLEAR_DRAFT copies the whole ACTIVE plan into the DRAFT, raises the draft version by one, 65535 being followed by 0, and answers
OK with the new draft version, in any state of the apply register. -/
def Obligations.DraftIsCleared : Prop :=
  ∀ (tag : Tag) (s : State), Ready s → exec (.clearDraft tag) s =
    .next (answered s { s with pls := { s.pls with draft := s.pls.active, draftVersion := s.pls.draftVersion + 1 } }
      0x15 tag .ok [natWord ((s.pls.draftVersion.toNat + 1) % 65536)])

/-- READ_PLAN, READ_APPLY_REPORT, READ_HALL, READ_ROUTE, READ_LINK, READ_SEGMENT, READ_BOOTH and READ_CHANNEL change nothing: what they
return is read from the records, word by word in the order of their rules. READ_CONSOLE sets the link error counter to 0 with the clear
option, after its value has been taken into the result. A value out of range is refused BAD_VALUE. (That WINDOW beside a booth is refused
and that only the ACTIVE copy has an effective flag is notes/assumptions 15, the coding of directives and answers in READ_CONSOLE and of the
other composite fields 8: the model's choices.) -/
def Obligations.PlanLinkAndFloorReads : Prop :=
  (∀ (tag : Tag) (copy hall : Word) (active : Bool) (h : Nat) (s : State), Ready s → onOff copy = some active →
    hall ≠ noneWord → hallField s.cpi.window hall = some h →
    exec (.readPlan tag copy hall noneWord) s = .next (answered s s 0x16 tag .ok (s.pls.hallAnswer active h))) ∧
  (∀ (tag : Tag) (copy : Word) (active : Bool) (s : State), Ready s → onOff copy = some active →
    exec (.readPlan tag copy noneWord noneWord) s =
      .next (answered s s 0x16 tag .ok (s.pls.hallAnswer active s.cpi.window))) ∧
  (∀ (tag : Tag) (copy booth : Word) (active : Bool) (s : State), Ready s → onOff copy = some active → booth.toNat < 32 →
    exec (.readPlan tag copy noneWord booth) s =
      .next (answered s s 0x16 tag .ok (s.pls.boothAnswer active booth.toNat))) ∧
  (∀ (tag : Tag) (copy hall booth : Word) (s : State), Ready s → hall ≠ noneWord → booth ≠ noneWord →
    exec (.readPlan tag copy hall booth) s = .next (answered s s 0x16 tag .badValue [])) ∧
  (∀ (tag : Tag) (s : State), Ready s →
    exec (.readApplyReport tag) s = .next (answered s s 0x18 tag .ok
      [boolWord s.pls.operation.isSome, optWord (s.pls.operation.map fun o => o.kind.position), natWord s.pls.markCount,
        optWord (s.pls.report.kind.map ApplyKind.position), s.pls.report.ending.word, natWord s.pls.report.version.toNat,
        natWord s.pls.report.hallsChanged, natWord s.pls.report.stuck, natWord s.pls.report.relayResets,
        natWord s.pls.report.planCuts])) ∧
  (∀ (tag : Tag) (hall : Word) (h : Nat) (s : State), Ready s → hallField s.cpi.window hall = some h →
    exec (.readHall tag hall) s = .next (answered s s 0x21 tag .ok
      [(s.hall h).state.word, boolWord (s.pls.joined h), optWord (s.hall h).organiser, natWord (s.hall h).tariff,
        boolWord (s.hall h).beaconOn, natWord (s.hall h).mapVersion.toNat, boolWord (isJunior h),
        natWord (s.pls.effectiveHall h), natWord s.pls.planVersion.toNat, natWord (s.markedOf h),
        boolWord ((s.hall h).announced = s.pls.beaconMap h)])) ∧
  (∀ (tag : Tag) (d : Word) (s : State), Ready s → d.toNat < 224 →
    exec (.readRoute tag d) s = .next (answered s s 0x31 tag .ok
      ([natWord (s.route d.toNat).desired.number, confirmedWord (s.route d.toNat).confirmed,
        natWord (s.route d.toNat).status.position, boolWord (s.route d.toNat).mark, natWord (s.route d.toNat).attempts]
        ++ s.rte.place d.toNat ++ s.rte.commandFor d.toNat))) ∧
  (∀ (tag : Tag) (s : State), Ready s → exec (.readLink tag) s = .next (answered s s 0x32 tag .ok
    (boolWord (!s.rte.up) :: (s.rte.commandWords ++
      [natWord s.rte.timeouts, natWord s.rte.nextTag.toNat, natWord s.rte.urgent.length, natWord s.rte.bulk.length])))) ∧
  (∀ (tag : Tag) (g : Word) (s : State), Ready s → g.toNat < 2 →
    exec (.readSegment tag g) s = .next (answered s s 0x41 tag .ok (s.bbc.segmentAnswer g.toNat))) ∧
  (∀ (tag : Tag) (b : Word) (s : State), Ready s → b.toNat < 32 →
    exec (.readBooth tag b) s = .next (answered s s 0x53 tag .ok (s.boothFloorAnswer b.toNat))) ∧
  (∀ (tag : Tag) (hall channel : Word) (h : Nat) (s : State), Ready s → hallField s.cpi.window hall = some h →
    1 ≤ channel.toNat → channel.toNat ≤ 31 →
    exec (.readChannel tag hall channel) s = .next (answered s s 0x54 tag .ok (s.channelAnswer h channel.toNat))) ∧
  (∀ (tag : Tag) (a : Word) (s : State), Ready s → a.toNat < 96 →
    exec (.readConsole tag a 0) s = .next (answered s s 0x40 tag .ok (s.consoleAnswer a.toNat)) ∧
    exec (.readConsole tag a 1) s = .next (answered s (s.setLink a.toNat { s.link a.toNat with errors := 0 }) 0x40 tag .ok
      (s.consoleAnswer a.toNat))) ∧
  -- values out of range
  (∀ (tag : Tag) (copy hall booth : Word) (s : State), Ready s →
    (onOff copy = none ∨ (hall ≠ noneWord ∧ hallField s.cpi.window hall = none) ∨ optBelow 32 booth = none) →
    exec (.readPlan tag copy hall booth) s = .next (answered s s 0x16 tag .badValue [])) ∧
  (∀ (tag : Tag) (hall channel : Word) (s : State), Ready s →
    (hallField s.cpi.window hall = none → exec (.readHall tag hall) s = .next (answered s s 0x21 tag .badValue [])) ∧
    (hallField s.cpi.window hall = none ∨ channel.toNat < 1 ∨ 31 < channel.toNat →
      exec (.readChannel tag hall channel) s = .next (answered s s 0x54 tag .badValue []))) ∧
  (∀ (tag : Tag) (n clear : Word) (s : State), Ready s →
    (224 ≤ n.toNat → exec (.readRoute tag n) s = .next (answered s s 0x31 tag .badValue [])) ∧
    (2 ≤ n.toNat → exec (.readSegment tag n) s = .next (answered s s 0x41 tag .badValue [])) ∧
    (32 ≤ n.toNat → exec (.readBooth tag n) s = .next (answered s s 0x53 tag .badValue [])) ∧
    (96 ≤ n.toNat ∨ 1 < clear.toNat → exec (.readConsole tag n clear) s = .next (answered s s 0x40 tag .badValue []))) ∧
  -- the words returned, in the order of their rules: plans (R13), routes and link (R60)
  (∀ (p : Pls) (active : Bool) (n : Nat), let plan := if active then p.active else p.draft
    p.hallAnswer active n = natWord (plan.hall n).width ::
      (((List.range' 1 31).flatMap fun c => [optWord ((plan.hall n).entry c).language, ((plan.hall n).entry c).fallback.word,
        ((plan.hall n).entry c).interlock.word]) ++
      [natWord p.draftVersion.toNat, natWord p.planVersion.toNat, boolWord (active && !p.joinedJunior n)]) ∧
    p.boothAnswer active n = [natWord (plan.booth n).home, optWord (plan.booth n).a, optWord (plan.booth n).b,
      (plan.booth n).relay.word, natWord p.draftVersion.toNat, natWord p.planVersion.toNat]) ∧
  (∀ (r : Rte) (d : Nat),
    (d ∉ r.urgent → d ∉ r.bulk → r.place d = [noneWord, noneWord]) ∧
    (∀ before after, r.urgent = before ++ d :: after → d ∉ before → r.place d = [0, natWord before.length]) ∧
    (∀ before after, d ∉ r.urgent → r.bulk = before ++ d :: after → d ∉ before → r.place d = [1, natWord before.length]) ∧
    (r.outstanding = none → r.commandWords = [noneWord, noneWord, noneWord, noneWord]) ∧
    ((∀ c, r.outstanding = some c → c.destination ≠ d) → r.commandFor d = [0, noneWord, noneWord, noneWord]) ∧
    (∀ c, r.outstanding = some c →
      r.commandWords = [natWord c.destination, natWord c.source.number, natWord c.tag.toNat, natWord c.sends] ∧
      (c.destination = d → r.commandFor d = [1, natWord c.source.number, natWord c.tag.toNat, natWord c.sends]))) ∧
  -- consoles and segments (R64, R84, R86)
  (∀ (s : State) (a : Nat), s.consoleAnswer a =
    [natWord (s.link a).state.position, natWord (s.link a).misses, boolWord (s.link a).identPending,
      boolWord (s.link a).directiveBit, boolWord (s.link a).acceptedBit] ++ (s.link a).stored.words 2 ++ (s.link a).answer.words 3 ++
    (natWord (s.link a).directives.length :: (s.link a).directives.flatMap Directive.words) ++
    [boolWord (s.link a).offered, natWord (s.link a).errors, (s.floor a).mic.word, (s.floor a).switch.word,
      optWord (s.floor a).login, natWord (s.floor a).dutyTimer, boolWord (s.floor a).dutyWarned, boolWord (s.floor a).dutyOver,
      (s.booth (boothOf a)).direction.word, optWord ((s.floor a).lastOff.map OffReason.position)]) ∧
  (∀ (refusedAt : Word) (x : Result), Answer.none.words refusedAt = [0, noneWord] ∧ Answer.taken.words refusedAt = [1, noneWord] ∧
    Answer.busy.words refusedAt = [2, noneWord] ∧ (Answer.refused x).words refusedAt = [refusedAt, natWord x.number]) ∧
  (∀ (x : OffReason) (p : Pick) (n h : Nat) (t : Text),
    Directive.micOn.words = [0, 0] ∧ (Directive.micOff x).words = [0, 1, natWord x.position] ∧ Directive.lock.words = [1, 2] ∧
    Directive.unlock.words = [1, 3] ∧ (Directive.relaySet p).words = [2, 4, p.word] ∧ Directive.handoverAsked.words = [3, 5] ∧
    (Directive.dutyWarn n).words = [4, 6, natWord n] ∧ (Directive.ident n h).words = [5, 7, natWord n, natWord h] ∧
    (Directive.cueIn n t).words = [6, 8, natWord n, bytesWord (t.getD 0 0) (t.getD 1 0) (t.getD 2 0) (t.getD 3 0),
      bytesWord (t.getD 4 0) (t.getD 5 0) (t.getD 6 0) (t.getD 7 0)]) ∧
  (∀ (b : Bbc) (g : Nat), b.segmentAnswer g =
    [boolWord (b.segment g).silent, natWord (b.segment g).silentRounds, natWord (b.segment g).position] ++
      [LinkState.absent, .online, .suspect, .offline].map fun x =>
        natWord ((List.range' (48 * g) 48).countP fun a => (b.link a).state == x)) ∧
  -- booths and channels (R87, R88, R103, R110)
  (∀ (s : State) (b : Nat), s.boothFloorAnswer b =
    [(s.booth b).mode.word, natWord (s.booth b).window, natWord (s.booth b).dutyLimit, boolWord (s.booth b).loginRequired,
      boolWord (s.booth b).snoop, (s.booth b).forced.word, boolWord (s.booth b).relayLock, (s.booth b).pick.word,
      optWord (s.booth b).holder] ++ (natWord (s.booth b).requests.length :: (s.booth b).requests.map natWord) ++
    [optWord (s.booth b).deadline, (s.booth b).direction.word, natWord (s.pls.boothHall b)] ++ s.boothPlace b ++
    [optWord (s.outputLanguage b)]) ∧
  (∀ (s : State) (b : Nat), let token := fun c => s.token (busOf (s.pls.boothHall b) c)
    (∀ c, 1 ≤ c → c ≤ 31 → (token c).holder = some b → (∀ e, 1 ≤ e → e < c → (token e).holder ≠ some b) →
      s.boothPlace b = [natWord c, noneWord]) ∧
    ((∀ c, 1 ≤ c → c ≤ 31 → (token c).holder ≠ some b) →
      (∀ c before after, 1 ≤ c → c ≤ 31 → (token c).waits = before ++ b :: after → b ∉ before →
        (∀ e, 1 ≤ e → e < c → b ∉ (token e).waits) → s.boothPlace b = [natWord c, natWord before.length]) ∧
      ((∀ c, 1 ≤ c → c ≤ 31 → b ∉ (token c).waits) → s.boothPlace b = [noneWord, noneWord]))) ∧
  (∀ (s : State) (b l : Nat), s.outputLanguage b = some l ↔
    (if (s.booth b).direction = .a then (s.pls.active.booth b).a else (s.pls.active.booth b).b) = some l ∧
      (s.pls.effectivePlan (s.pls.boothHall b)).carries l = true) ∧
  (∀ (s : State) (h c : Nat), let x := s.token (busOf h c)
    s.channelAnswer h c = [optWord x.holder, natWord x.waits.length] ++ x.waits.map natWord ++
      [natWord x.service, optWord ((s.feeder h c).bind fun b => (s.booth b).holder)])

/-- COMMIT_PLAN with the draft version while no operation is in flight and no check fails: the DRAFT becomes the ACTIVE plan, the
plan version rises by one and is returned with ACCEPTED, and any operation then in flight is this commit. Hall states, hires and
accounts stay. A holder whose hall or language goes is cut with its booth's requests; the channel token records follow their languages,
and a channel left without a holder passes to the head of its wait list; changed relay defaults are taken and every pick that then fails
the relay check becomes FLOOR; each console is told what became of it by MIC_OFF or MIC_ON, RELAY_SET, LOCK and UNLOCK; every destination
takes its desired source and is settled, left STUCK or marked; the beacons of halls without a mark take the new map; the operation, or its
report where nothing was marked, carries the counts. A stale version and an operation in flight refuse it, in that order. The checks that
keep a language read as R3, R7 and R21 say. (That a version of 65536 or above is a stale one is notes/assumptions 14, that each booth gets one
RELAY_SET with its final pick 24: the model's choices.) -/
def Obligations.CommitIsTaken : Prop :=
  (∀ (tag : Tag) (version : Word) (s : State), Ready s → s.commitCheck version.toNat = none →
    ∃ t, exec (.commitPlan tag version) s = .next t ∧
      t.cpi.held = { result := .accepted, code := 0x17, tag := tag, body := [natWord (s.pls.planVersion + 1).toNat] } ∧
      t.pls.active = s.pls.draft ∧ t.pls.draft = s.pls.draft ∧ t.pls.draftVersion = s.pls.draftVersion ∧
      t.pls.planVersion = s.pls.planVersion + 1 ∧ t.pls.languages = s.pls.languages ∧
      (∀ o, t.pls.operation = some o → o.kind = .commit ∧ o.version = s.pls.planVersion + 1) ∧
      (∀ h, (t.hall h).state = (s.hall h).state) ∧ t.rpm = s.rpm ∧ t.acu = s.acu) ∧
  (∀ (tag : Tag) (version : Word) (s : State), Ready s → version.toNat ≠ s.pls.draftVersion.toNat →
    exec (.commitPlan tag version) s =
      .next (answered s s 0x17 tag .staleDraft [noneWord, noneWord, noneWord, noneWord])) ∧
  (∀ (tag : Tag) (version : Word) (s : State), Ready s → version.toNat = s.pls.draftVersion.toNat →
    s.pls.operation ≠ none →
    exec (.commitPlan tag version) s = .next (answered s s 0x17 tag .busy [noneWord, noneWord, noneWord, noneWord])) ∧
  -- the plan notice: cuts, picks
  (∀ (tag : Tag) (version : Word) (s t : State), Ready s → s.commitCheck version.toNat = none →
    exec (.commitPlan tag version) s = .next t →
    let p : Pls := { s.pls with active := s.pls.draft }
    (∀ b < 32, (s.booth b).holder = none → (t.booth b).holder = none ∧ (t.booth b).requests = (s.booth b).requests) ∧
    (∀ b < 32, ∀ a, (s.booth b).holder = some a →
      (BoothKept s.pls p b (s.booth b).direction → (t.booth b).holder = some a ∧
        (t.booth b).requests = (s.booth b).requests ∧ (t.booth b).deadline = (s.booth b).deadline) ∧
      (¬ BoothKept s.pls p b (s.booth b).direction → (t.booth b).holder = none ∧ (t.booth b).requests = [] ∧
        (t.booth b).deadline = none ∧ (HoldersAtHome s → ∀ c ∈ consolesOf b, (t.floor c).mic = .off ∧
          ((s.floor c).mic ≠ .off → (t.floor c).lastOff = some .planCut ∧ (t.floor c).dutyTimer = 0)))) ∧
    (let told := fun b => if (s.pls.active.booth b).relay = (p.active.booth b).relay then (s.booth b).pick
        else (p.active.booth b).relay
      let picks := fun b => if b < 32 then told b else (s.booth b).pick
      let r : Report := (t.pls.operation.map fun o => o.report .complete).getD t.pls.report
      (∀ b < 32, (t.booth b).pick = if p.relayCheck picks b (told b) = none then told b else .floor) ∧
      r.kind = some .commit ∧ r.ending = .complete ∧ r.version = s.pls.planVersion + 1 ∧ r.stuck = 0 ∧
      r.hallsChanged = (List.range 6).countP (fun h => (s.pls.effectivePlan h).differs (p.effectivePlan h)) ∧
      r.relayResets = (List.range 32).countP (fun b => p.relayCheck picks b (told b) ≠ none) ∧
      r.planCuts = (((List.range 32).filter fun b => (s.booth b).holder ≠ none ∧
        ¬ BoothKept s.pls p b (s.booth b).direction).map s.activeConsoles).sum)) ∧
  -- the directives of the plan notice, in their order: the microphone, the pick, the lock
  (∀ (tag : Tag) (version : Word) (s t : State), Ready s → s.commitCheck version.toNat = none →
    exec (.commitPlan tag version) s = .next t → HoldersAtHome s →
    let p : Pls := { s.pls with active := s.pls.draft }
    let told := fun b => if (s.pls.active.booth b).relay = (p.active.booth b).relay then (s.booth b).pick
        else (p.active.booth b).relay
    let picks := fun b => if b < 32 then told b else (s.booth b).pick
    ∀ b < 32, ∀ a ∈ consolesOf b,
      let cut : Prop := (s.booth b).holder ≠ none ∧ ¬ BoothKept s.pls p b (s.booth b).direction
      let mic := if cut ∧ (s.floor a).mic ≠ .off then (s.link a).enqueue (.micOff .planCut)
        else if (s.floor a).mic ≠ .live ∧ (t.floor a).mic = .live then (s.link a).enqueue .micOn else s.link a
      let relay := if (t.booth b).pick ≠ (s.booth b).pick ∨ p.relayCheck picks b (told b) ≠ none
        then mic.enqueue (.relaySet (t.booth b).pick) else mic
      let was := (s.hall (s.pls.boothHall b)).state
      let now := (s.hall (p.boothHall b)).state
      { t.link a with offered := (s.link a).offered } =
        if was = .live ∧ now ≠ .live then relay.enqueue .lock
        else if was ≠ .live ∧ now = .live then relay.enqueue .unlock else relay) ∧
  -- the channel token records
  (∀ (tag : Tag) (version : Word) (s t : State), Ready s → s.commitCheck version.toNat = none →
    exec (.commitPlan tag version) s = .next t → ∀ h < 6, s.pls.joinedJunior h = false → ∀ c, 1 ≤ c → c ≤ 31 →
    let p : Pls := { s.pls with active := s.pls.draft }
    ((∀ l, (p.effectivePlan h).languageAt c = some l → (s.pls.effectivePlan h).carries l = false) →
      t.token (busOf h c) = { holder := none, waits := [], service := 0 }) ∧
    (∀ l d, (p.effectivePlan h).languageAt c = some l → (s.pls.effectivePlan h).channelOf l = some d →
      (t.token (busOf h c)).service = (s.token (busOf h d)).service ∧
      (∀ b < 32, (s.token (busOf h d)).holder = some b → (∃ a, (s.booth b).holder = some a) →
        BoothKept s.pls p b (s.booth b).direction → (t.token (busOf h c)).holder = some b ∧
          ((∀ x ∈ (s.token (busOf h d)).waits, (s.booth x).holder = none ∨ BoothKept s.pls p x (s.booth x).direction) →
            (t.token (busOf h c)).waits = (s.token (busOf h d)).waits)) ∧
      (∀ b < 32, (s.token (busOf h d)).holder = some b → (s.booth b).holder ≠ none → s.pls.boothHall b = h →
        ¬ BoothKept s.pls p b (s.booth b).direction →
        ((s.token (busOf h d)).waits = [] → (t.token (busOf h c)).holder = none) ∧
        (∀ w rest a, (s.token (busOf h d)).waits = w :: rest →
          (∀ x ∈ w :: rest, (s.booth x).holder = none ∨ BoothKept s.pls p x (s.booth x).direction) →
          (s.booth w).holder = some a → (t.token (busOf h c)).holder = some w ∧ (t.token (busOf h c)).waits = rest ∧
            (t.floor a).mic = .live)))) ∧
  -- the apply notice: destinations, marks, beacons
  (∀ (tag : Tag) (version : Word) (s t : State), Ready s → s.commitCheck version.toNat = none →
    exec (.commitPlan tag version) s = .next t →
    (∀ d < 224, { t.route d with attempts := 0 } =
      { s.route d with
        desired := t.desiredSource d, attempts := 0
        status := if t.desiredSource d = (s.route d).desired ∨ (s.route d).status = .stuck then (s.route d).status
          else if (s.route d).confirmed = some (t.desiredSource d) then .settled else .pending
        mark := if t.desiredSource d = (s.route d).desired ∨ (s.route d).status = .stuck then (s.route d).mark
          else if (s.route d).confirmed = some (t.desiredSource d) then false else true }) ∧
    t.pls.markCount = (List.range 224).countP (fun d => (t.route d).mark) ∧
    (t.pls.operation ≠ none ↔ t.pls.markCount ≠ 0) ∧
    (t.pls.markCount = 0 → t.tau.hasCause .commitDone = true) ∧
    ((∀ d < 224, (s.route d).mark = false) → ∀ h < 6, (t.hall h).announced =
      if t.markedOf h = 0 then t.pls.beaconMap h else (s.hall h).announced)) ∧
  -- what keeps a language
  (∀ (s : State) (l : Nat),
    let plan := s.pls.active.namesLanguage l = true ∨ s.pls.draft.namesLanguage l = true
    let preference := ∃ a, (s.account a).state ≠ .free ∧ (s.account a).preference = some l
    let hire := ∃ r h, ((s.receiver r).state = .issued ∨ (s.receiver r).state = .overdue ∨ (s.receiver r).state = .lost) ∧
      (s.receiver r).hire = some h ∧ h.language = l
    (s.languageHolder l = some 0 ↔ plan) ∧ (s.languageHolder l = some 1 ↔ ¬ plan ∧ preference) ∧
    (s.languageHolder l = some 2 ↔ ¬ plan ∧ ¬ preference ∧ hire) ∧
    (s.languageHolder l = none ↔ ¬ plan ∧ ¬ preference ∧ ¬ hire)) ∧
  (∀ (p : Plan) (l : Nat), p.namesLanguage l = true ↔
    (∃ h c, h < 6 ∧ 1 ≤ c ∧ c ≤ 31 ∧ (((p.hall h).entry c).language = some l ∨ ((p.hall h).entry c).fallback = .language l)) ∨
    ∃ b < 32, (p.booth b).a = some l ∨ (p.booth b).b = some l ∨ (p.booth b).relay = .language l) ∧
  (∀ (p : HallPlan) (l : Nat), p.carries l = true ↔ ∃ c, 1 ≤ c ∧ c ≤ 31 ∧ c < p.width ∧ (p.entry c).language = some l) ∧
  (∀ (s : State) (h : Nat) (p : HallPlan) (l : Nat), s.lostLanguage h p = some l ↔ l < 48 ∧ s.demand h l ≠ 0 ∧
    p.carries l = false ∧ ∀ m < l, s.demand h m ≠ 0 → p.carries m = true) ∧
  (∀ (s : State) (h l : Nat), s.demand h l = s.listening h l + s.openTickets h l)

/-- A plan that COMMIT_PLAN accepts is sound: no language at or above the width, none named twice in a hall, every fallback language
carried, no fallback cycle, every booth part consistent, at most 4 feeders of a language in a home hall, every language named
defined, and no language on hire lost. -/
def Obligations.AcceptedPlansAreSound : Prop :=
  ∀ (tag : Tag) (version : Word) (s t : State), Ready s → exec (.commitPlan tag version) s = .next t →
    t.cpi.held.result = .accepted →
    let p := t.pls.active
    version.toNat = s.pls.draftVersion.toNat ∧ s.pls.operation = none ∧
    (∀ h < 6, ∀ c, 1 ≤ c → c ≤ 31 → ((p.hall h).entry c).language ≠ none → c < (p.hall h).width) ∧
    (∀ h < 6, ∀ c d l, 1 ≤ c → c < d → d ≤ 31 → (p.hall h).languageAt c = some l → (p.hall h).languageAt d ≠ some l) ∧
    (∀ h < 6, ∀ c m, 1 ≤ c → c ≤ 31 → (p.hall h).languageAt c ≠ none → ((p.hall h).entry c).fallback = .language m →
      (p.hall h).carries m = true) ∧
    (∀ h < 6, ∀ c, 1 ≤ c → c ≤ 31 → (p.hall h).follow 32 c = none) ∧
    (∀ b < 32, ((p.booth b).a = none → (p.booth b).b = none) ∧
      (∀ l, (p.booth b).a = some l → (p.booth b).b ≠ some l) ∧
      (∀ l < 48, (p.booth b).feeds l = true → (p.hall (p.booth b).home).carries l = true)) ∧
    (∀ h < 6, ∀ l < 48, p.homeFeeders h l ≤ 4) ∧
    (∀ l < 48, p.namesLanguage l = true → t.label l ≠ none) ∧
    (∀ h < 6, ∀ l < 48, s.demand h l ≠ 0 → (t.pls.effectivePlan h).carries l = true)

/-- APPLY_COMPLETE: an operation whose mark count is 0 ends, its report is written with ending COMPLETE, and its cause is raised;
while marks remain, or with nothing in flight (notes/assumptions 3), nothing happens. The desired source of every destination by the rows
of its table, and what a recompute notice makes of one destination: unchanged, STUCK, settled with its mark cleared, or PENDING in its
place or at the tail of its list, marked under an apply notice. -/
def Obligations.ApplyCompletes : Prop :=
  (∀ (o : Operation) (s : State), s.pls.operation = some o → s.pls.markCount = 0 →
    exec .applyComplete s = .next (State.settle
      { s with
        pls := { s.pls with
          operation := none
          report := { kind := some o.kind, ending := .complete, version := o.version, hallsChanged := o.hallsChanged,
                      stuck := o.stuck, relayResets := o.relayResets, planCuts := o.planCuts } }
        tau := s.tau.raise (match o.kind with
          | .commit => .commitDone
          | .join => .hallApplied
          | .split => .hallApplied) })) ∧
  (∀ s : State, s.pls.operation = none ∨ s.pls.markCount ≠ 0 → exec .applyComplete s = .next s.settle) ∧
  -- R7, R44: the channel buses
  (∀ (p : Pls) (h : Nat), (p.joinedJunior h = true ↔ h % 2 = 1 ∧ p.joined h = true) ∧
    p.effectiveHall h = (if p.joinedJunior h = true then h - 1 else h) ∧
    p.effectivePlan h = p.active.hall (p.effectiveHall h)) ∧
  (∀ (s : State) (h c b : Nat), s.feeder h c = some b ↔ (s.token (busOf h c)).holder = some b ∧
    ∃ a, (s.booth b).holder = some a ∧ (s.floor a).mic = .live) ∧
  (∀ (s : State) (h c : Nat),
    ((s.hall h).state = .quiet → s.channelSource h c = .silence) ∧
    ((s.hall h).state = .tone → s.channelSource h c = .tone) ∧
    ((s.hall h).state = .live ∨ (s.hall h).state = .floorAll →
      (c = 0 → s.channelSource h c = .floor (s.pls.effectiveHall h)) ∧
      (c ≠ 0 → s.pls.joinedJunior h = true → s.channelSource h c = .bus ((h - 1) * 32 + c)) ∧
      (c ≠ 0 → s.pls.joinedJunior h = false → (s.hall h).state = .floorAll → s.channelSource h c = .floor h) ∧
      (c ≠ 0 → s.pls.joinedJunior h = false → (s.hall h).state = .live →
        ((s.pls.effectivePlan h).languageAt c = none → s.channelSource h c = .silence) ∧
        ((s.pls.effectivePlan h).languageAt c ≠ none →
          (∀ b, s.feeder h c = some b → s.channelSource h c = .booth b) ∧
          (s.feeder h c = none →
            (((s.pls.effectivePlan h).entry c).fallback = .floor → s.channelSource h c = .floor h) ∧
            (((s.pls.effectivePlan h).entry c).fallback = .silence → s.channelSource h c = .silence) ∧
            (∀ m x, ((s.pls.effectivePlan h).entry c).fallback = .language m →
              (s.pls.effectivePlan h).channelOf m = some x → s.channelSource h c = .bus (h * 32 + x))))))) ∧
  -- R45: the relay inputs
  (∀ (s : State) (b : Nat),
    ((s.hall (s.pls.boothHall b)).state = .quiet → s.relaySource b = .silence) ∧
    ((s.hall (s.pls.boothHall b)).state = .tone → s.relaySource b = .tone) ∧
    ((s.hall (s.pls.boothHall b)).state = .live ∨ (s.hall (s.pls.boothHall b)).state = .floorAll →
      ((s.booth b).pick = .floor → s.relaySource b = .floor (s.pls.boothHall b)) ∧
      (∀ m x, (s.booth b).pick = .language m → (s.pls.effectivePlan (s.pls.boothHall b)).channelOf m = some x →
        s.relaySource b = .bus (s.pls.boothHall b * 32 + x)))) ∧
  (∀ (s : State) (d : Nat), s.desiredSource d = if d < 192 then s.channelSource (d / 32) (d % 32) else s.relaySource (d - 192)) ∧
  -- R46, R47: notices, and one destination of a notice
  (∀ (n : Notice) (s : State) (ds : List Nat), s.notice n ds = ds.foldl (fun u d => u.recompute n d) s) ∧
  (∀ s before : State, ∃ ds, s.floorNotice before = s.notice .urgent ds ∧ ds.Pairwise (· < ·) ∧
    ∀ d, d ∈ ds ↔ (d < 192 ∧ before.feeder (d / 32) (d % 32) ≠ s.feeder (d / 32) (d % 32)) ∨
      (192 ≤ d ∧ d < 224 ∧ (before.booth (d - 192)).pick ≠ (s.booth (d - 192)).pick)) ∧
  (∀ (n : Notice) (s : State) (d : Nat), s.desiredSource d = (s.route d).desired → s.recompute n d = s) ∧
  (∀ (n : Notice) (s : State) (d : Nat), s.desiredSource d ≠ (s.route d).desired → (s.route d).status = .stuck →
    s.recompute n d = s.setRoute d { s.route d with desired := s.desiredSource d }) ∧
  (∀ (n : Notice) (s : State) (d : Nat), s.desiredSource d ≠ (s.route d).desired → (s.route d).status ≠ .stuck →
    (s.route d).confirmed = some (s.desiredSource d) → (s.route d).mark = false →
    s.recompute n d = { s with
      rte := ({ s.rte with urgent := s.rte.urgent.erase d, bulk := s.rte.bulk.erase d }).setRoute d
        { s.route d with desired := s.desiredSource d, status := .settled } }) ∧
  (∀ (n : Notice) (s : State) (d : Nat), s.desiredSource d ≠ (s.route d).desired → (s.route d).status ≠ .stuck →
    (s.route d).confirmed = some (s.desiredSource d) → (s.route d).mark = true →
    (s.recompute n d).route d = { s.route d with desired := s.desiredSource d, status := .settled, mark := false } ∧
    (s.recompute n d).rte.urgent = s.rte.urgent.erase d ∧ (s.recompute n d).rte.bulk = s.rte.bulk.erase d ∧
    (s.recompute n d).pls.markCount = s.pls.markCount - 1 ∧
    (s.pls.markCount ≤ 1 → (s.recompute n d).pls.operation = none) ∧
    (1 < s.pls.markCount → (s.recompute n d).pls.operation = s.pls.operation)) ∧
  (∀ (n : Notice) (s : State) (d : Nat), s.desiredSource d ≠ (s.route d).desired → (s.route d).status ≠ .stuck →
    (s.route d).confirmed ≠ some (s.desiredSource d) →
    s.recompute n d = { s with
      rte := ({ s.rte with
        urgent := if d ∈ s.rte.urgent ∨ n ≠ Notice.urgent then s.rte.urgent else s.rte.urgent ++ [d]
        bulk := if d ∈ s.rte.urgent then s.rte.bulk else if n = Notice.urgent then s.rte.bulk.erase d
          else if d ∈ s.rte.bulk then s.rte.bulk else s.rte.bulk ++ [d] }).setRoute d
        { s.route d with desired := s.desiredSource d, status := .pending
                         mark := (s.route d).mark || decide (n = Notice.apply) } })

/-- The relay depth of R14, computed along paths with its cycles, agrees with the bound that the relay check uses. -/
def Obligations.RelayDepthBound : Prop :=
  ∀ (p : Pls) (picks : Nat → Pick) (b : Nat), b < 32 →
    (p.depthWithin picks 2 b = true ↔ ∃ d ≤ 2, p.relayDepth picks 33 [] b = some d)

/-! ## Hall states, joining and beacons -/

/-- SET_HALL replaces the organiser and the service tariff together; an organiser that is neither OPEN nor SUSPENDED, or not of kind
ORGANISER, refuses it ACCOUNT_STATE. SET_HALL_STATE: the hall, and with the senior of a JOINED pair its junior, take the new state, and
beacon on follows it, a generator that starts sending its first frame; no other hall changes state, and no plan, hire or account changes.
Leaving LIVE queues MIC_OFF and LOCK, a return to LIVE UNLOCK, any other change nothing for the consoles of the booths whose effective hall it
is; then the hall's destinations are recomputed as one URGENT notice. The junior of a JOINED pair is refused JOINED; the present state has no
further effect. (That the first frame is begun at the timebase's moment is notes/assumptions 4, that the frame is kept 23: the model's
choices.) -/
def Obligations.HallsAreSet : Prop :=
  (∀ (tag : Tag) (hall organiser tariff : Word) (h : Nat) (o : Option Nat) (s : State), Ready s →
    hallField s.cpi.window hall = some h → optBelow 512 organiser = some o → tariff.toNat < 8 →
    (∀ a, o = some a → ((s.account a).state = .opened ∨ (s.account a).state = .suspended) ∧
      (s.account a).kind = .organiser) →
    exec (.setHall tag hall organiser tariff) s =
      .next (answered s (s.setHall h { s.hall h with organiser := o, tariff := tariff.toNat }) 0x20 tag .ok [])) ∧
  (∀ (tag : Tag) (hall organiser tariff : Word) (h a : Nat) (s : State), Ready s → hallField s.cpi.window hall = some h →
    optBelow 512 organiser = some (some a) → tariff.toNat < 8 →
    ((s.account a).state = .free ∨ (s.account a).state = .closed ∨ (s.account a).kind ≠ .organiser) →
    exec (.setHall tag hall organiser tariff) s = .next (answered s s 0x20 tag .accountState [])) ∧
  (∀ (tag : Tag) (hall state : Word) (h : Nat) (x : HallState) (s : State), Ready s → hallField s.cpi.window hall = some h →
    hallStateField state = some x → s.pls.joinedJunior h = true →
    exec (.setHallState tag hall state) s = .next (answered s s 0x22 tag .joined [])) ∧
  (∀ (tag : Tag) (hall state : Word) (h : Nat) (x : HallState) (s : State), Ready s → hallField s.cpi.window hall = some h →
    hallStateField state = some x → s.pls.joinedJunior h = false → (s.hall h).state = x →
    exec (.setHallState tag hall state) s = .next (answered s s 0x22 tag .ok [])) ∧
  (∀ (tag : Tag) (hall state : Word) (h : Nat) (x : HallState) (s : State), Ready s → hallField s.cpi.window hall = some h →
    hallStateField state = some x → s.pls.joinedJunior h = false → (s.hall h).state ≠ x →
    ∃ t, exec (.setHallState tag hall state) s = .next t ∧
      t.cpi.held = { result := .ok, code := 0x22, tag := tag, body := [] } ∧
      (∀ k, (t.hall k).state =
        if k = h ∨ (s.pls.joined h = true ∧ k = junior h) then x else (s.hall k).state) ∧
      (∀ k, (t.hall k).beaconOn =
        if k = h ∨ (s.pls.joined h = true ∧ k = junior h) then (x != .quiet) else (s.hall k).beaconOn) ∧
      t.pls.active = s.pls.active ∧ t.pls.draft = s.pls.draft ∧ t.rpm = s.rpm ∧ t.acu = s.acu) ∧
  -- the hall notice: directives, first frames, the URGENT recompute notice (R31, R32, R33, R40)
  (∀ (tag : Tag) (hall state : Word) (h : Nat) (x : HallState) (s : State), Ready s → hallField s.cpi.window hall = some h →
    hallStateField state = some x → s.pls.joinedJunior h = false → (s.hall h).state ≠ x →
    let covered := fun k => k = h ∨ (s.pls.joined h = true ∧ k = junior h)
    ∃ v : State, exec (.setHallState tag hall state) s = .next (answered s
        (v.notice .urgent ((List.range 224).filter fun d => s.pls.destinationHall d = h ∨
          (s.pls.joined h = true ∧ s.pls.destinationHall d = junior h))) 0x22 tag .ok []) ∧
      v.rte = s.rte ∧ v.rks = s.rks ∧ v.tau = s.tau ∧
      (∀ k, (covered k → v.hall k = { s.hall k with
          state := x, beaconOn := x != .quiet
          sent := if (s.hall k).beaconOn = false ∧ x ≠ .quiet then beaconFrame k (s.hall k).mapVersion (s.hall k).announced
            else (s.hall k).sent
          nextFrame := if (s.hall k).beaconOn = false ∧ x ≠ .quiet then s.tau.now + 500 else (s.hall k).nextFrame }) ∧
        (¬ covered k → v.hall k = s.hall k)) ∧
      ∀ c < 96, v.link c =
        if s.pls.boothHall (boothOf c) = h ∧ (s.hall h).state = .live then
          (if (s.floor c).mic = .off then s.link c else (s.link c).enqueue (.micOff .hallTest)).enqueue .lock
        else if s.pls.boothHall (boothOf c) = h ∧ x = .live then (s.link c).enqueue .unlock
        else s.link c)

/-- A hall that leaves LIVE clears its floor: every booth whose effective hall it is loses its holder, its request list and its
deadline, its consoles in the floor go OFF with reason HALL_TEST and receive MIC_OFF, every console of theirs receives LOCK, and every
channel's token and wait list are emptied. Relay picks, logins, switch positions and service counters are kept. -/
def Obligations.LeavingLiveClearsTheFloor : Prop :=
  ∀ (tag : Tag) (hall state : Word) (h : Nat) (x : HallState) (s t : State), Ready s →
    hallField s.cpi.window hall = some h → hallStateField state = some x → s.pls.joinedJunior h = false →
    (s.hall h).state = .live → x ≠ .live → exec (.setHallState tag hall state) s = .next t →
    (∀ b < 32, s.pls.boothHall b = h →
      (t.booth b).holder = none ∧ (t.booth b).requests = [] ∧ (t.booth b).deadline = none ∧
      (t.booth b).pick = (s.booth b).pick ∧ (t.booth b).direction = (s.booth b).direction ∧
      ∀ a ∈ consolesOf b, (t.floor a).mic = .off ∧ (t.floor a).login = (s.floor a).login ∧
        (t.floor a).switch = (s.floor a).switch ∧
        ((s.floor a).mic ≠ .off → (t.floor a).lastOff = some .hallTest ∧ (t.floor a).dutyTimer = 0) ∧
        { t.link a with offered := (s.link a).offered } =
          (if (s.floor a).mic = .off then s.link a else (s.link a).enqueue (.micOff .hallTest)).enqueue .lock) ∧
    (∀ c, 1 ≤ c → c ≤ 31 → (t.token (busOf h c)).holder = none ∧ (t.token (busOf h c)).waits = [] ∧
      (t.token (busOf h c)).service = (s.token (busOf h c)).service)

/-- JOIN_HALLS and SPLIT_HALLS that pass their checks are ACCEPTED: the pair is joined, or separate, the booths of both home halls
leave the floor with reason JOIN or SPLIT, switch positions A and relay pick FLOOR, told by MIC_OFF and RELAY_SET, the channels of both halls
are emptied, and plans, hires and accounts stay. Every destination takes its desired source and is settled, left STUCK or marked; the
operation, or its report where nothing was marked, carries its kind, the plan version in force and the counts, and HALL_APPLIED is raised with
the report. The refusals come in the order of their checks, IN_USE with the junior and the first language in demand that would be lost. -/
def Obligations.PairsJoinAndSplit : Prop :=
  (∀ (tag : Tag) (hall : Word) (h : Nat) (s : State) (join : Bool), Ready s → hallField s.cpi.window hall = some h →
    s.pls.joined h = !join → s.pls.operation = none → (s.hall (senior h)).state = .live →
    (join = true → (s.hall (junior h)).state = .live) →
    s.lostLanguage (junior h) (s.pls.active.hall (if join then senior h else junior h)) = none →
    ∃ t, exec (if join then .joinHalls tag hall else .splitHalls tag hall) s = .next t ∧
      t.cpi.held = { result := .accepted, code := if join then 0x23 else 0x24, tag := tag, body := [] } ∧
      t.pls.joined h = join ∧ t.pls.active = s.pls.active ∧ t.pls.draft = s.pls.draft ∧
      t.pls.planVersion = s.pls.planVersion ∧ t.rpm = s.rpm ∧ t.acu = s.acu ∧
      (∀ b ∈ s.pls.boothsOfPair h,
        (t.booth b).holder = none ∧ (t.booth b).requests = [] ∧ (t.booth b).deadline = none ∧ (t.booth b).pick = .floor ∧
        ((s.booth b).snoop = true → (t.booth b).direction = .a) ∧
        ∀ a ∈ consolesOf b, (t.floor a).mic = .off ∧ (t.floor a).switch = .a ∧ (t.floor a).login = (s.floor a).login) ∧
      (∀ c, 1 ≤ c → c ≤ 31 →
        (t.token (busOf (senior h) c)).holder = none ∧ (t.token (busOf (senior h) c)).waits = [] ∧
        (t.token (busOf (junior h) c)).holder = none ∧ (t.token (busOf (junior h) c)).waits = [])) ∧
  -- the notice to the consoles (R35, R39)
  (∀ (tag : Tag) (hall : Word) (h : Nat) (s t : State) (join : Bool), Ready s → hallField s.cpi.window hall = some h →
    s.pls.joined h = !join → s.pls.operation = none → (s.hall (senior h)).state = .live →
    (join = true → (s.hall (junior h)).state = .live) →
    s.lostLanguage (junior h) (s.pls.active.hall (if join then senior h else junior h)) = none →
    exec (if join then .joinHalls tag hall else .splitHalls tag hall) s = .next t →
    let reason : OffReason := if join then .join else .split
    (∀ b ∈ s.pls.boothsOfPair h, (t.booth b).mode = (s.booth b).mode ∧ (t.booth b).window = (s.booth b).window ∧
      (t.booth b).dutyLimit = (s.booth b).dutyLimit ∧ (t.booth b).loginRequired = (s.booth b).loginRequired ∧
      (t.booth b).snoop = (s.booth b).snoop ∧ (t.booth b).forced = (s.booth b).forced ∧
      (t.booth b).relayLock = (s.booth b).relayLock ∧
      ((s.booth b).snoop = false → (t.booth b).direction = (s.booth b).direction) ∧
      ∀ a ∈ consolesOf b,
        ((s.floor a).mic ≠ .off → (t.floor a).lastOff = some reason ∧ (t.floor a).dutyTimer = 0) ∧
        { t.link a with offered := (s.link a).offered } =
          (let told := if (s.floor a).mic = .off then s.link a else (s.link a).enqueue (.micOff reason)
            if (s.booth b).pick = .floor then told else told.enqueue (.relaySet .floor))) ∧
    -- the apply notice (R36)
    (∀ d < 224, { t.route d with attempts := 0 } =
      { s.route d with
        desired := t.desiredSource d, attempts := 0
        status := if t.desiredSource d = (s.route d).desired ∨ (s.route d).status = .stuck then (s.route d).status
          else if (s.route d).confirmed = some (t.desiredSource d) then .settled else .pending
        mark := if t.desiredSource d = (s.route d).desired ∨ (s.route d).status = .stuck then (s.route d).mark
          else if (s.route d).confirmed = some (t.desiredSource d) then false else true }) ∧
    t.pls.markCount = (List.range 224).countP (fun d => (t.route d).mark) ∧
    (t.pls.operation ≠ none ↔ t.pls.markCount ≠ 0) ∧
    (t.pls.markCount = 0 → t.tau.hasCause .hallApplied = true) ∧
    (let r : Report := (t.pls.operation.map fun o => o.report .complete).getD t.pls.report
     r.kind = some (if join then .join else .split) ∧ r.ending = .complete ∧ r.version = s.pls.planVersion ∧ r.stuck = 0 ∧
      r.planCuts = 0 ∧ r.relayResets = (s.pls.boothsOfPair h).countP (fun b => (s.booth b).pick != .floor) ∧
      r.hallsChanged = (List.range 6).countP (fun k => (s.pls.effectivePlan k).differs (t.pls.effectivePlan k))) ∧
    ((∀ d < 224, (s.route d).mark = false) → ∀ k < 6, (t.hall k).announced =
      if t.markedOf k = 0 then t.pls.beaconMap k else (s.hall k).announced)) ∧
  -- the booths of the pair (R35)
  (∀ (p : Pls) (h b : Nat), b ∈ p.boothsOfPair h ↔ b < 32 ∧ (p.active.booth b).home / 2 = h / 2) ∧
  -- the refusals in their order (R34, R38)
  (∀ (tag : Tag) (hall : Word) (s : State) (join : Bool), Ready s →
    let refused := fun (reason : Result) (body : List Word) =>
      exec (if join then .joinHalls tag hall else .splitHalls tag hall) s =
        .next (answered s s (if join then 0x23 else 0x24) tag reason body)
    (hallField s.cpi.window hall = none → refused .badValue []) ∧
    ∀ h, hallField s.cpi.window hall = some h →
      (s.pls.joined h = join → refused (if join then .joined else .notJoined) []) ∧
      (s.pls.joined h = !join →
        (s.pls.operation ≠ none → refused .busy []) ∧
        (s.pls.operation = none →
          ((s.hall (senior h)).state ≠ .live ∨ (join = true ∧ (s.hall (junior h)).state ≠ .live) → refused .notLive []) ∧
          ((s.hall (senior h)).state = .live → (join = true → (s.hall (junior h)).state = .live) →
            ∀ l, s.lostLanguage (junior h) (s.pls.active.hall (if join then senior h else junior h)) = some l →
              refused .inUse [natWord (junior h), natWord l]))))

/-- BEACON_FRAME: while the hall's beacon is on, a frame with the announced map and its version is begun and kept as the last one sent, and
the next follows 500 ms after it; while it is off nothing is sent. (The frame kept is notes/assumptions 23, the timebase moved to its
moment 4.) A hall adopts the map of its effective plan, and its version rises by one, where that map differs from the announced one and no
destination of the hall is marked; the clearing of a mark makes this test for the destination's hall. The map names the label of the
language at each channel. -/
def Obligations.BeaconFramesAreSent : Prop :=
  (∀ (h : Fin 6) (s : State), (s.hall h).beaconOn = true → exec (.beaconFrame h) s =
    .next (State.settle ((s.reach (s.hall h).nextFrame).setHall h
      { s.hall h with sent := beaconFrame h (s.hall h).mapVersion (s.hall h).announced
                      nextFrame := (s.hall h).nextFrame + 500 }))) ∧
  (∀ (h : Fin 6) (s : State), (s.hall h).beaconOn = false → exec (.beaconFrame h) s = .next s.settle) ∧
  (∀ (s : State) (h : Nat), (s.hall h).announced ≠ s.pls.beaconMap h →
    (∀ d < 224, s.pls.destinationHall d = h → (s.route d).mark = false) → s.beaconTest h = s.setHall h
      { s.hall h with announced := s.pls.beaconMap h, mapVersion := (s.hall h).mapVersion + 1 }) ∧
  (∀ (s : State) (h : Nat), ((s.hall h).announced = s.pls.beaconMap h ∨
    ∃ d < 224, s.pls.destinationHall d = h ∧ (s.route d).mark = true) → s.beaconTest h = s) ∧
  (∀ (p : Pls) (d : Nat), p.destinationHall d = if d < 192 then d / 32 else p.boothHall (d - 192)) ∧
  (∀ (s : State) (d : Nat) (stuck : Bool) (h : Nat), (s.markCleared d stuck).hall h =
    if h = s.pls.destinationHall d then (s.beaconTest h).hall h else s.hall h) ∧
  (∀ (p : Pls) (h c : Nat), (p.beaconMap h).lookup c = if 1 ≤ c ∧ c ≤ 31
    then ((p.effectivePlan h).languageAt c).bind p.languages.lookup else none)

/-! ## Routing and the crosspoint link -/

/-- A free link that is UP takes the head of URGENT, or of BULK where URGENT is empty, and forms a SET with the desired source, the
next tag and send count 1; the next tag advances and the attempt count becomes 1. A link that is DOWN, has a command outstanding or
finds both lists empty forms none. (That the command times out at the timebase's moment + 20 is the model's choice, notes/assumptions 4.) -/
def Obligations.SetIsFormed : Prop :=
  (∀ (r : Rte) (now d : Nat) (rest : List Nat), r.up = true → r.outstanding = none → r.urgent ++ r.bulk = d :: rest →
    (r.pump now).outstanding = some { destination := d, source := (r.route d).desired, tag := r.nextTag, sends := 1,
                                      deadline := now + 20 } ∧
    (r.pump now).nextTag = r.nextTag + 1 ∧ (r.pump now).urgent = r.urgent ∧ (r.pump now).bulk = r.bulk ∧
    (∀ e, (r.pump now).route e = if e = d then { r.route d with attempts := 1 } else r.route e)) ∧
  (∀ (r : Rte) (now : Nat), r.up = false ∨ r.outstanding ≠ none ∨ (r.urgent = [] ∧ r.bulk = []) → r.pump now = r)

/-- MATRIX_RETRY: each STUCK destination, in ascending order, gets attempt count 0 and becomes SETTLED where its desired source is
confirmed and otherwise PENDING at the tail of BULK; their number is returned and none is STUCK any more. Other destinations, marks,
URGENT and the link stay. -/
def Obligations.StuckRoutesAreRetried : Prop :=
  ∀ (tag : Tag) (s : State), Ready s → ∃ rte,
    exec (.matrixRetry tag) s =
      .next (answered s { s with rte := rte } 0x30 tag .ok [natWord s.rte.stuckOnes.length]) ∧
    s.rte.stuckOnes.Pairwise (· < ·) ∧ (∀ d, d ∈ s.rte.stuckOnes ↔ (s.route d).status = .stuck) ∧
    (∀ d, (s.route d).status = .stuck → rte.route d =
      { s.route d with attempts := 0
                       status := if (s.route d).confirmed = some (s.route d).desired then .settled else .pending }) ∧
    (∀ d, (s.route d).status ≠ .stuck → rte.route d = s.route d) ∧
    rte.bulk = s.rte.bulk ++ s.rte.stuckOnes.filter (fun d => (s.route d).confirmed ≠ some (s.route d).desired) ∧
    rte.urgent = s.rte.urgent ∧ rte.outstanding = s.rte.outstanding ∧ rte.up = s.rte.up ∧ rte.nextTag = s.rte.nextTag ∧
    rte.timeouts = s.rte.timeouts ∧ rte.anyStuck = false

/-- MATRIX_DONE: one that matches no outstanding command is ignored. A matching one confirms the command's source; where it is the
desired source still, the destination becomes SETTLED and leaves its list, and a mark it carries is cleared; otherwise it stays
PENDING and goes to the tail of its list, or of BULK where it stands in none. -/
def Obligations.DoneIsTaken : Prop :=
  (∀ (d : Byte) (tag : BitVec 2) (s : State),
    (∀ c, s.rte.outstanding = some c → c.destination ≠ d.toNat ∨ c.tag ≠ tag) →
    exec (.matrixDone d tag) s = .next s.settle) ∧
  (∀ (d : Byte) (c : SetCommand) (s : State), s.rte.outstanding = some c → c.destination = d.toNat →
    (s.route d.toNat).desired = c.source → (s.route d.toNat).mark = false →
    exec (.matrixDone d c.tag) s = .next (State.settle { s with
      rte := ({ s.rte with outstanding := none, timeouts := 0, urgent := s.rte.urgent.erase d.toNat,
                           bulk := s.rte.bulk.erase d.toNat }).setRoute d.toNat
        { desired := c.source, confirmed := some c.source, status := .settled, mark := false, attempts := 0 } })) ∧
  (∀ (d : Byte) (c : SetCommand) (s : State), s.rte.outstanding = some c → c.destination = d.toNat →
    (s.route d.toNat).desired = c.source → (s.route d.toNat).mark = true →
    ∃ u, exec (.matrixDone d c.tag) s = .next (State.settle u) ∧
      u.route d.toNat = { desired := c.source, confirmed := some c.source, status := .settled, mark := false, attempts := 0 } ∧
      u.rte.outstanding = none ∧ u.rte.urgent = s.rte.urgent.erase d.toNat ∧ u.rte.bulk = s.rte.bulk.erase d.toNat ∧
      u.pls.markCount = s.pls.markCount - 1 ∧
      (s.pls.markCount ≤ 1 → u.pls.operation = none) ∧
      (1 < s.pls.markCount → u.pls.operation = s.pls.operation)) ∧
  (∀ (d : Byte) (c : SetCommand) (s : State), s.rte.outstanding = some c → c.destination = d.toNat →
    (s.route d.toNat).desired ≠ c.source → ∃ rte,
    exec (.matrixDone d c.tag) s = .next (State.settle { s with rte := rte }) ∧
      rte.outstanding = none ∧ rte.timeouts = 0 ∧
      (∀ e, rte.route e = if e = d.toNat then
        { s.route e with confirmed := some c.source, status := .pending, attempts := 0 } else s.route e) ∧
      rte.urgent = (if d.toNat ∈ s.rte.urgent then s.rte.urgent.erase d.toNat ++ [d.toNat] else s.rte.urgent) ∧
      rte.bulk = (if d.toNat ∈ s.rte.urgent then s.rte.bulk else s.rte.bulk.erase d.toNat ++ [d.toNat]))

/-- A matching REJECT BUSY, and a confirmation timeout short of the fourth in a row, send the command again where its source is the desired
one and fewer than 4 sends were made, drop it where the desired source has changed, and otherwise drop it with the destination at the tail
of its list. A matching NO_PORT or BAD_SOURCE makes the destination STUCK, and a marked one counts in the operation in flight, or in its
report where it was the last. (A timeout with no command outstanding is ignored, notes/assumptions 3, and one moves the timebase to its
moment, notes/assumptions 4: the model's choices.) -/
def Obligations.RejectsAndTimeouts : Prop :=
  (∀ (d : Byte) (tag : BitVec 2) (reason : RejectReason) (s : State),
    (∀ c, s.rte.outstanding = some c → c.destination ≠ d.toNat ∨ c.tag ≠ tag) →
    exec (.matrixReject d tag reason) s = .next s.settle) ∧
  (∀ (d : Byte) (c : SetCommand) (s : State), s.rte.outstanding = some c → c.destination = d.toNat →
    exec (.matrixReject d c.tag .busy) s =
      .next (State.settle { s with rte := ({ s.rte with timeouts := 0 }).retry c s.tau.now })) ∧
  (∀ (c : SetCommand) (s : State), s.rte.outstanding = some c → s.rte.timeouts + 1 < 4 →
    exec .matrixConfirmTimeout s =
      .next (State.settle { s with tau := { s.tau with now := max s.tau.now c.deadline }
                                   rte := ({ s.rte with timeouts := s.rte.timeouts + 1 }).retry c
                                     (max s.tau.now c.deadline) })) ∧
  (∀ s : State, s.rte.outstanding = none → exec .matrixConfirmTimeout s = .next s.settle) ∧
  (∀ (r : Rte) (c : SetCommand) (now : Nat), (r.route c.destination).desired = c.source → c.sends < 4 →
    (r.retry c now).outstanding = some { c with sends := c.sends + 1, deadline := now + 20 } ∧
    (r.retry c now).urgent = r.urgent ∧ (r.retry c now).bulk = r.bulk ∧ (r.retry c now).timeouts = r.timeouts ∧
    ((r.retry c now).route c.destination).attempts = (r.route c.destination).attempts + 1) ∧
  (∀ (r : Rte) (c : SetCommand) (now : Nat), (r.route c.destination).desired ≠ c.source →
    (r.retry c now).outstanding = none ∧ (r.retry c now).urgent = r.urgent ∧ (r.retry c now).bulk = r.bulk ∧
    (r.retry c now).route c.destination = { r.route c.destination with attempts := 0 }) ∧
  (∀ (r : Rte) (c : SetCommand) (now : Nat), (r.route c.destination).desired = c.source → 4 ≤ c.sends →
    (r.retry c now).outstanding = none ∧ (r.retry c now).route c.destination = { r.route c.destination with attempts := 0 } ∧
    (c.destination ∈ r.urgent → (r.retry c now).urgent = r.urgent.erase c.destination ++ [c.destination]) ∧
    (c.destination ∉ r.urgent → c.destination ∈ r.bulk →
      (r.retry c now).bulk = r.bulk.erase c.destination ++ [c.destination])) ∧
  (∀ (d : Byte) (c : SetCommand) (reason : RejectReason) (s : State), s.rte.outstanding = some c →
    c.destination = d.toNat → reason ≠ .busy → ∃ u,
    exec (.matrixReject d c.tag reason) s = .next (State.settle u) ∧
      u.route d.toNat = { s.route d.toNat with status := .stuck, mark := false } ∧ u.rte.outstanding = none ∧
      u.rte.timeouts = 0 ∧ u.rte.urgent = s.rte.urgent.erase d.toNat ∧ u.rte.bulk = s.rte.bulk.erase d.toNat ∧
      u.tau.hasCause .routeStuck = true ∧
      u.pls.markCount = (if (s.route d.toNat).mark then s.pls.markCount - 1 else s.pls.markCount) ∧
      ((s.route d.toNat).mark = false → u.pls = s.pls) ∧
      ((s.route d.toNat).mark = true → 1 < s.pls.markCount → u.pls.report = s.pls.report ∧
        ∀ o, s.pls.operation = some o → u.pls.operation = some { o with stuck := o.stuck + 1 }) ∧
      (∀ o, (s.route d.toNat).mark = true → s.pls.markCount ≤ 1 → s.pls.operation = some o → u.pls.operation = none ∧
        u.pls.report = { kind := some o.kind, ending := .complete, version := o.version, hallsChanged := o.hallsChanged,
                         stuck := o.stuck + 1, relayResets := o.relayResets, planCuts := o.planCuts }))

/-- The fourth timeout in a row takes the link DOWN and abandons the command. While DOWN a PROBE goes out every 1000 ms, and PRESENT
brings the link UP with a resync; ALERT resyncs it in either state and raises MATRIX_ALERT. A resync makes every destination's
confirmed source UNKNOWN and lists every destination but the STUCK ones in BULK, ascending. (A MATRIX_PROBE_DUE while UP is ignored,
notes/assumptions 3, and the last frame sent is kept, notes/assumptions 23: the model's choices.) -/
def Obligations.LinkDownAndUp : Prop :=
  (∀ (c : SetCommand) (s : State), s.rte.outstanding = some c → 3 ≤ s.rte.timeouts → ∃ u,
    exec .matrixConfirmTimeout s = .next (State.settle u) ∧ u.rte.up = false ∧ u.rte.outstanding = none ∧
      u.rte.timeouts = 4 ∧ u.rte.routes = s.rte.routes ∧ u.rte.urgent = s.rte.urgent ∧ u.rte.bulk = s.rte.bulk ∧
      u.rte.sent = matrixProbeFrame) ∧
  (∀ s : State, s.rte.up = false → ∃ u, exec .matrixProbeDue s = .next (State.settle u) ∧
    u.rte = { s.rte with probeDue := s.rte.probeDue + 1000, sent := matrixProbeFrame }) ∧
  (∀ s : State, s.rte.up = true → exec .matrixProbeDue s = .next s.settle ∧ exec .present s = .next s.settle) ∧
  (∀ s : State, s.rte.up = false → exec .present s = .next (State.settle { s with rte := s.rte.comeUp })) ∧
  (∀ s : State, exec .alert s =
    .next (State.settle { s with rte := s.rte.comeUp, tau := s.tau.raise .matrixAlert })) ∧
  (∀ r : Rte, r.comeUp.up = true ∧ r.comeUp.outstanding = none ∧ r.comeUp.timeouts = 0 ∧ r.comeUp.nextTag = r.nextTag ∧
    r.comeUp.urgent = [] ∧ r.comeUp.bulk = (List.range 224).filter (fun d => (r.route d).status ≠ .stuck) ∧
    (∀ d < 224, r.comeUp.route d = if (r.route d).status = .stuck then { r.route d with confirmed := none }
      else { r.route d with confirmed := none, status := .pending, attempts := 0 }))

/-- Every step keeps the routing map in order: the pending lists hold exactly the destinations that are not STUCK and whose confirmed source
is not the desired one, the mark count is the number of marks, and an operation is in flight exactly while there are marks. -/
def Obligations.RoutesStayInOrder : Prop := ∀ s t : State, RoutesInOrder s → step s = .next t → RoutesInOrder t

/-! ## The booth bus -/

/-- The choice of a free segment's next transaction, its polls, its probes, its rounds and its silence. A console is polled where it is the
first at or after the round position, wrapping, that is ONLINE or SUSPECT, and an address is probed where it is the lowest whose probe is due;
after a poll a probe is taken first, otherwise a poll. The poll round ends as the position wraps; a counting round without an answer raises the
silent rounds, which stop at 3 and make the segment SILENT; a good reply, or a malformed one to a poll, ends SILENT (that a segment that is
ANSWERING returns its count to 0 at the end of the round is notes/assumptions 36, that the position may wrap with the poll in progress 18, that
the console goes OFFLINE before the round ends 37, that the frame begun last stays on BB0 and BB1 23: the model's choices).
BB_PROBE_DUE makes the probe of an address that is ABSENT or OFFLINE fall due. A good reply to a probe brings the console ONLINE
with its sequence bits, answers and miss count cleared, IDENT as the head of its directive list, LOCK behind it where its hall is
not LIVE, and raises CONSOLE_CHANGE. (A BB_PROBE_DUE of a polled console and a BB_PROBE_REPLY without a probe are ignored,
notes/assumptions 3, and the timebase moves to the probe's moment, notes/assumptions 4: the model's choices.) -/
def Obligations.ProbesBringConsolesOnline : Prop :=
  (∀ (a : Fin 96) (m : Nat) (s : State), (s.link a).hears = false →
    (s.bbc.segment (segmentOf a)).probe a = .at m → ∃ u,
    exec (.bbProbeDue a) s = .next (State.settle u) ∧ (u.bbc.segment (segmentOf a)).probe a = .fallen m ∧
      u.bbc.links = s.bbc.links ∧ u.fla = s.fla ∧ u.tau.now = max s.tau.now m) ∧
  (∀ (a : Fin 96) (s : State), (s.link a).hears = true → exec (.bbProbeDue a) s = .next s.settle) ∧
  (∀ (g : Fin 2) (x : BusTransaction) (r : Reply) (s : State), (s.bbc.segment g).transaction = some x → x.probe = true →
    r.address.val = x.console → r.valid = true → ∃ u,
    exec (.bbProbeReply g r) s = .next (State.settle u) ∧ (u.bbc.segment g).transaction = none ∧
      (u.bbc.segment g).silent = false ∧ u.tau.hasCause .consoleChange = true ∧
      u.link x.console =
        { state := .online, misses := 0, identPending := true, directiveBit := false, acceptedBit := false, stored := .none,
          answer := .none, offered := false, errors := (s.link x.console).errors,
          directives := .ident x.console (s.pls.boothHall (boothOf x.console)) ::
            (if (s.hall (s.pls.boothHall (boothOf x.console))).state = .live then [] else [.lock]) } ∧
      (∀ c, c ≠ x.console → u.link c = s.link c) ∧ u.fla = s.fla) ∧
  (∀ (g : Fin 2) (r : Reply) (s : State), (∀ x, (s.bbc.segment g).transaction = some x → x.probe = false) →
    exec (.bbProbeReply g r) s = .next s.settle) ∧
  -- the console to poll and the address to probe (R66, R67)
  (∀ (b : Bbc) (g a : Nat), g < 2 →
    (b.nextPoll g = none ↔ ∀ c ∈ segmentAddresses g, (b.link c).hears = false) ∧
    (b.nextPoll g = some (a, false) ↔ a ∈ segmentAddresses g ∧ (b.link a).hears = true ∧ (b.segment g).position ≤ a ∧
      ∀ c ∈ segmentAddresses g, (b.segment g).position ≤ c → c < a → (b.link c).hears = false) ∧
    (b.nextPoll g = some (a, true) ↔ a ∈ segmentAddresses g ∧ (b.link a).hears = true ∧
      (∀ c ∈ segmentAddresses g, (b.segment g).position ≤ c ∨ c < a → (b.link c).hears = false)) ∧
    (b.nextProbe g = some a ↔ a ∈ segmentAddresses g ∧ (b.link a).hears = false ∧ ((b.segment g).probe a).isFallen = true ∧
      ∀ c ∈ segmentAddresses g, c < a → (b.link c).hears = true ∨ ((b.segment g).probe c).isFallen = false) ∧
    (b.nextProbe g = none ↔ ∀ c ∈ segmentAddresses g, (b.link c).hears = true ∨ ((b.segment g).probe c).isFallen = false)) ∧
  (∀ g c : Nat, c ∈ segmentAddresses g ↔ 48 * g ≤ c ∧ c < 48 * g + 48) ∧
  -- the next transaction (R67, R68)
  (∀ (g : Nat) (s : State), Ready s → g < 2 → (s.bbc.segment g).transaction ≠ none →
    s.settle.bbc.segment g = s.bbc.segment g ∧ ∀ c ∈ segmentAddresses g, s.settle.link c = s.link c) ∧
  (∀ (g a : Nat) (s : State), Ready s → g < 2 → (s.bbc.segment g).transaction = none → s.bbc.nextProbe g = some a →
    ((s.bbc.segment g).afterPoll = true ∨ s.bbc.nextPoll g = none) →
    s.settle.bbc.segment g = { s.bbc.segment g with
      probes := (s.bbc.segment g).probes.insert a (.at (s.tau.now + 1000)), afterPoll := false, sent := probeFrame a
      transaction := some { console := a, probe := true, carried := false, started := s.tau.now } } ∧
    ∀ c ∈ segmentAddresses g, s.settle.link c = s.link c) ∧
  (∀ (g a : Nat) (wrapped : Bool) (s : State), Ready s → g < 2 → (s.bbc.segment g).transaction = none →
    s.bbc.nextPoll g = some (a, wrapped) → ((s.bbc.segment g).afterPoll = false ∨ s.bbc.nextProbe g = none) →
    let x := if wrapped = true then (s.bbc.segment g).endRound else s.bbc.segment g
    s.settle.bbc.segment g = { x with
      position := if a = 48 * g + 47 then 48 * g else a + 1, ending := decide (a = 48 * g + 47), polled := true
      afterPoll := true
      sent := pollFrame a (s.link a).directiveBit (s.link a).answer (s.link a).directives.head?
      transaction := some { console := a, probe := false, carried := !(s.link a).directives.isEmpty
                            started := s.tau.now } } ∧
    ∀ c ∈ segmentAddresses g, s.settle.link c =
      if c = a ∧ (s.link a).directives ≠ [] then { s.link a with offered := true } else s.link c) ∧
  (∀ (g : Nat) (s : State), Ready s → g < 2 → s.bbc.nextPoll g = none → s.bbc.nextProbe g = none →
    s.settle.bbc.segment g = s.bbc.segment g) ∧
  -- rounds and silence (R66, R83)
  (∀ x : Segment, x.endRound = { x with
    polled := false, answered := false, ending := false
    silentRounds := if x.polled = false then x.silentRounds else if x.answered = true then 0 else min 3 (x.silentRounds + 1)
    silent := x.silent || (x.polled && !x.answered && decide (3 ≤ x.silentRounds + 1)) }) ∧
  (∀ x : Segment, x.endTransaction =
    if x.ending = true then { x with transaction := none }.endRound else { x with transaction := none }) ∧
  (∀ (g : Fin 2) (x : BusTransaction) (s : State), (s.bbc.segment g).transaction = some x → x.probe = false →
    (∃ u, exec (.bbReplyWindowExpiry g) s = .next (State.settle u) ∧ u.tau.now = max s.tau.now (x.started + 2) ∧
      { u.bbc.segment g with probes := (s.bbc.segment g).probes } = (s.bbc.segment g).endTransaction ∧
      (∀ k < 2, k ≠ g.val → u.bbc.segment k = s.bbc.segment k) ∧
      ∀ a, (u.bbc.segment g).probe a = if a = x.console ∧ 4 ≤ (s.link a).misses + 1 then .at (x.started + 1000)
        else (s.bbc.segment g).probe a) ∧
    (∃ u, exec (.bbMalformedReply g) s = .next (State.settle u) ∧
      { u.bbc.segment g with probes := (s.bbc.segment g).probes } = (s.bbc.segment g).pollAnswered.endTransaction ∧
      (∀ k < 2, k ≠ g.val → u.bbc.segment k = s.bbc.segment k) ∧
      ∀ a, (u.bbc.segment g).probe a = if a = x.console ∧ 4 ≤ (s.link a).misses + 1 then .at (x.started + 1000)
        else (s.bbc.segment g).probe a) ∧
    (∀ r : Reply, r.address.val = x.console → r.valid = true → ∃ u,
      exec (.bbPollReply g r) s = .next (State.settle u) ∧
      u.bbc.segment g = (s.bbc.segment g).pollAnswered.endTransaction ∧
      ∀ k < 2, k ≠ g.val → u.bbc.segment k = s.bbc.segment k) ∧
    ∀ r : Reply, (r.address.val ≠ x.console ∨ r.valid = false) →
      exec (.bbPollReply g r) s = exec (.bbMalformedReply g) s) ∧
  (∀ (g : Fin 2) (x : BusTransaction) (s : State), (s.bbc.segment g).transaction = some x → x.probe = true →
    (∃ u, exec (.bbReplyWindowExpiry g) s = .next (State.settle u) ∧
      u.bbc.segment g = (s.bbc.segment g).endTransaction ∧ ∀ k < 2, k ≠ g.val → u.bbc.segment k = s.bbc.segment k) ∧
    (∃ u, exec (.bbMalformedReply g) s = .next (State.settle u) ∧
      u.bbc.segment g = (s.bbc.segment g).endTransaction ∧ ∀ k < 2, k ≠ g.val → u.bbc.segment k = s.bbc.segment k) ∧
    (∀ r : Reply, r.address.val = x.console → r.valid = true → ∃ u,
      exec (.bbProbeReply g r) s = .next (State.settle u) ∧
      u.bbc.segment g = { s.bbc.segment g with silent := false, silentRounds := 0 }.endTransaction ∧
      ∀ k < 2, k ≠ g.val → u.bbc.segment k = s.bbc.segment k) ∧
    ∀ r : Reply, (r.address.val ≠ x.console ∨ r.valid = false) →
      exec (.bbProbeReply g r) s = exec (.bbMalformedReply g) s) ∧
  (∀ x : Segment, x.pollAnswered = { x with
    answered := true
    silent := false, silentRounds := if x.silent = true then 0 else x.silentRounds })

/-- A poll that draws no reply, or a malformed one, raises the miss count and the error counter and makes an ONLINE console SUSPECT;
the fourth in a row makes it OFFLINE, empties its directive list, raises CONSOLE_CHANGE and sends it from the floor and its login. A probe
that draws none changes no link record; without a transaction nothing happens (notes/assumptions 3). A reset that begins a recovery leaves
no transaction and no exchange while it lasts, so that a late reply is ignored (notes/assumptions 33). -/
def Obligations.MissesTakeConsolesOffline : Prop :=
  (∀ (g : Fin 2) (x : BusTransaction) (s : State) (malformed : Bool), (s.bbc.segment g).transaction = some x →
    x.probe = false → (s.link x.console).misses + 1 < 4 → ∃ u,
    exec (if malformed then .bbMalformedReply g else .bbReplyWindowExpiry g) s = .next (State.settle u) ∧
      (u.bbc.segment g).transaction = none ∧ u.fla = s.fla ∧ u.acu = s.acu ∧
      u.link x.console = { s.link x.console with
        misses := (s.link x.console).misses + 1
        errors := min 255 ((s.link x.console).errors + 1)
        state := if (s.link x.console).state = .online then .suspect else (s.link x.console).state } ∧
      (∀ c, c ≠ x.console → u.link c = s.link c)) ∧
  (∀ (g : Fin 2) (x : BusTransaction) (s : State) (malformed : Bool), (s.bbc.segment g).transaction = some x →
    x.probe = false → 4 ≤ (s.link x.console).misses + 1 → ∃ u,
    exec (if malformed then .bbMalformedReply g else .bbReplyWindowExpiry g) s = .next (State.settle u) ∧
      (u.bbc.segment g).transaction = none ∧ u.tau.hasCause .consoleChange = true ∧
      (u.link x.console).state = .offline ∧ (u.link x.console).misses = 0 ∧ (u.link x.console).errors = 0 ∧
      (u.link x.console).directives = [] ∧ (u.floor x.console).login = none ∧
      (∀ k, (s.floor x.console).login = some k → (u.account k).console = none) ∧
      (HoldersAtHome s → ((s.floor x.console).mic = .waitBooth ∨ x.console ∉ (s.booth (boothOf x.console)).requests) →
        (u.floor x.console).mic = .off ∧ ((s.floor x.console).mic ≠ .off → (u.floor x.console).lastOff = some .offline))) ∧
  (∀ (g : Fin 2) (x : BusTransaction) (s : State) (malformed : Bool), (s.bbc.segment g).transaction = some x →
    x.probe = true → ∃ u,
    exec (if malformed then .bbMalformedReply g else .bbReplyWindowExpiry g) s = .next (State.settle u) ∧
      (u.bbc.segment g).transaction = none ∧ u.bbc.links = s.bbc.links ∧ u.fla = s.fla) ∧
  (∀ (g : Fin 2) (s : State), (s.bbc.segment g).transaction = none →
    exec (.bbMalformedReply g) s = .next s.settle ∧ exec (.bbReplyWindowExpiry g) s = .next s.settle) ∧
  (∀ (c : Instr) (s t : State), Ready s → exec c s = .next t → ¬ Ready t →
    t.rks.line = none ∧ ∀ g < 2, (t.bbc.segment g).transaction = none) ∧
  (∀ (s : State) (g : Fin 2) (r : Reply), ¬ Ready s → s.rks.line = none → (s.bbc.segment g).transaction = none →
    exec (.bbPollReply g r) s = .next s.settle ∧ exec (.bbProbeReply g r) s = .next s.settle ∧
    exec (.bbMalformedReply g) s = .next s.settle ∧ (∀ k l, exec (.rlScanReply k l) s = .next s.settle) ∧
    (∀ k b, exec (.rlStartReply k b) s = .next s.settle) ∧ (∀ k p o, exec (.rlResultReply k p o) s = .next s.settle) ∧
    s.settle.rks = s.rks ∧ s.settle.bbc = s.bbc)

/-- A good reply to a poll that brings no new indication: the console is ONLINE with miss count 0, a TAKEN or REFUSED acknowledgement
with the directive bit removes the head of its list and toggles the bit, a REFUSED one counts a link error, an acknowledged IDENT clears ident
pending, and the poll answer becomes NONE for QUIET, the stored answer for a repeat, and BUSY for any indication while ident pending is set.
The floor does not change. -/
def Obligations.PollRepliesAreTaken : Prop :=
  (∀ (g : Fin 2) (x : BusTransaction) (r : Reply) (s : State), (s.bbc.segment g).transaction = some x → x.probe = false →
    r.address.val = x.console → r.valid = true →
    (r.indication = .quiet ∨ (r.indicationBit = (s.link x.console).acceptedBit ∧
      ((s.link x.console).answered.acknowledge x.carried r.ack r.ackBit).identPending = false)) → ∃ u,
    exec (.bbPollReply g r) s = .next (State.settle u) ∧ (u.bbc.segment g).transaction = none ∧ u.fla = s.fla ∧
      u.acu = s.acu ∧
      u.link x.console = { (s.link x.console).answered.acknowledge x.carried r.ack r.ackBit with
        answer := if r.indication = .quiet then .none else (s.link x.console).stored } ∧
      (∀ c, c ≠ x.console → u.link c = s.link c)) ∧
  (∀ (g : Fin 2) (x : BusTransaction) (r : Reply) (s : State), (s.bbc.segment g).transaction = some x → x.probe = false →
    r.address.val = x.console → r.valid = true → r.indication ≠ .quiet →
    ((s.link x.console).answered.acknowledge x.carried r.ack r.ackBit).identPending = true → ∃ u,
    exec (.bbPollReply g r) s = .next (State.settle u) ∧ (u.bbc.segment g).transaction = none ∧ u.fla = s.fla ∧
      u.acu = s.acu ∧
      u.link x.console = { (s.link x.console).answered.acknowledge x.carried r.ack r.ackBit with answer := .busy } ∧
      (∀ c, c ≠ x.console → u.link c = s.link c)) ∧
  (∀ (l : Link) (d : Directive) (rest : List Directive) (ack : Ack), l.directives = d :: rest →
    ack = .taken ∨ ack = .refused → l.acknowledge true ack l.directiveBit = { l with
      directives := rest, directiveBit := !l.directiveBit, offered := false
      identPending := l.identPending && d.kind != .ident
      errors := if ack = .refused then min 255 (l.errors + 1) else l.errors }) ∧
  (∀ (l : Link) (carried : Bool) (ack : Ack) (bit : Bool),
    carried = false ∨ bit ≠ l.directiveBit ∨ ack = .busy ∨ ack = .none → l.acknowledge carried ack bit = l)

/-- A new MIC_REQUEST that passes its checks while its booth has no holder and its channel is free: the console becomes LIVE, its booth
takes the channel, MIC_ON is queued and the answer is TAKEN. One that fails a check is answered REFUSED with the reason, and the
floor does not change. -/
def Obligations.MicIsGranted : Prop :=
  (∀ (g : Fin 2) (x : BusTransaction) (r : Reply) (a b c : Nat) (s : State), (s.bbc.segment g).transaction = some x →
    x.probe = false → x.console = a → boothOf a = b → r.address.val = a → r.indication = .micRequest →
    r.indicationBit ≠ (s.link a).acceptedBit →
    ((s.link a).answered.acknowledge x.carried r.ack r.ackBit).identPending = false → (s.floor a).mic = .off →
    s.requestCheck a = none → (s.booth b).holder = none → s.pls.boothChannel b (s.requestDirection a) = some c →
    ((s.booth b).snoop = false → (s.booth b).direction = (s.booth b).forced) →
    (s.token (busOf (s.pls.boothHall b) c)).holder = none → b ∉ (s.token (busOf (s.pls.boothHall b) c)).waits → ∃ u,
    exec (.bbPollReply g r) s = .next (State.settle u) ∧ (u.floor a).mic = .live ∧ (u.booth b).holder = some a ∧
      (u.token (busOf (s.pls.boothHall b) c)).holder = some b ∧ (u.link a).answer = .taken ∧ (u.link a).stored = .taken ∧
      (u.link a).acceptedBit = r.indicationBit ∧ ((s.link a).hears = true → .micOn ∈ (u.link a).directives)) ∧
  (∀ (g : Fin 2) (x : BusTransaction) (r : Reply) (a : Nat) (reason : Result) (s : State),
    (s.bbc.segment g).transaction = some x → x.probe = false → x.console = a → r.address.val = a →
    r.indication = .micRequest → r.indicationBit ≠ (s.link a).acceptedBit →
    ((s.link a).answered.acknowledge x.carried r.ack r.ackBit).identPending = false → (s.floor a).mic = .off →
    s.requestCheck a = some reason → ∃ u,
    exec (.bbPollReply g r) s = .next (State.settle u) ∧ u.fla = s.fla ∧ (u.link a).answer = .refused reason ∧
      (u.link a).stored = .refused reason ∧ (u.link a).acceptedBit = r.indicationBit)

/-- A new indication in a good reply to a poll is handed to its owner: what the owner does is done, its answer is the poll answer and the
stored answer, the accepted bit takes the indication's, and one floor notice covers the changes of feeders and picks. MIC_REQUEST with the
five checks in their order, MIC_RELEASE, DIR_A and DIR_B with the direction change, RELAY_PICK, CUE_OUT, LOGIN and LOGOUT. -/
def Obligations.IndicationsAreTaken : Prop :=
  (∀ (g : Fin 2) (x : BusTransaction) (r : Reply) (s : State), (s.bbc.segment g).transaction = some x → x.probe = false →
    r.address.val = x.console → r.valid = true → r.indication ≠ .quiet →
    r.indicationBit ≠ (s.link x.console).acceptedBit →
    ((s.link x.console).answered.acknowledge x.carried r.ack r.ackBit).identPending = false →
    ∃ u : State, u.pls = s.pls ∧ u.rte = s.rte ∧ u.fla = s.fla ∧ u.rks = s.rks ∧ u.rpm = s.rpm ∧ u.acu = s.acu ∧ u.tau = s.tau ∧
      (u.bbc.segment g).transaction = none ∧
      (∀ a, u.link a = if a = x.console then (s.link a).answered.acknowledge x.carried r.ack r.ackBit else s.link a) ∧
      let done := u.indicate x.console r.indication
      exec (.bbPollReply g r) s = .next (State.settle (State.floorNotice (done.1.setLink x.console
        { done.1.link x.console with answer := done.2, stored := done.2, acceptedBit := r.indicationBit }) s))) ∧
  (∀ l : Link, l.answered = { l with misses := 0, state := if l.state = .suspect then .online else l.state }) ∧
  -- MIC_REQUEST (R90) and MIC_RELEASE (R99)
  (∀ (s : State) (a : Nat), s.indicate a .micRequest =
    if (s.floor a).mic ≠ .off then (s, .taken)
    else match s.requestCheck a with
      | some reason => (s, .refused reason)
      | none => (s.takeRequest a, .taken)) ∧
  (∀ (s : State) (a : Nat), s.requestDirection a =
    if (s.booth (boothOf a)).snoop = true then (s.floor a).switch else (s.booth (boothOf a)).forced) ∧
  (∀ (p : Pls) (b : Nat) (d : Direction), p.boothChannel b d =
    (match d with
      | .a => (p.active.booth b).a
      | .b => (p.active.booth b).b).bind (p.effectivePlan (p.boothHall b)).channelOf) ∧
  (∀ (p : HallPlan) (l c : Nat), p.channelOf l = some c ↔ 1 ≤ c ∧ c ≤ 31 ∧ c < p.width ∧ (p.entry c).language = some l ∧
    ∀ d, 1 ≤ d → d < c → (p.entry d).language ≠ some l) ∧
  (∀ (s : State) (a : Nat),
    let b := boothOf a
    let x := s.booth b
    let h := s.pls.boothHall b
    ((s.hall h).state ≠ .live → s.requestCheck a = some .hallNotLive) ∧
    ((s.hall h).state = .live → x.loginRequired = true → (s.floor a).login = none → s.requestCheck a = some .notLogged) ∧
    ((s.hall h).state = .live → (x.loginRequired = false ∨ (s.floor a).login ≠ none) →
      s.pls.boothChannel b (s.requestDirection a) = none → s.requestCheck a = some .noChannel) ∧
    (∀ c, (s.hall h).state = .live → (x.loginRequired = false ∨ (s.floor a).login ≠ none) →
      s.pls.boothChannel b (s.requestDirection a) = some c → s.requestCheck a =
        if x.mode = .exclusive ∧ x.holder ≠ none then some .boothBusy
        else if (x.holder = none ∨ x.mode = .override) ∧ (s.token (busOf h c)).holder ≠ none ∧
          (s.token (busOf h c)).holder ≠ some b ∧ ((s.pls.effectivePlan h).entry c).interlock = .firstHolds ∧
          4 ≤ (s.token (busOf h c)).waits.length ∧ b ∉ (s.token (busOf h c)).waits then some .channelBusy
        else none)) ∧
  (∀ (s : State) (a : Nat),
    ((s.floor a).mic = .off → s.indicate a .micRelease = (s, .taken)) ∧
    ((s.floor a).mic = .live ∨ (s.floor a).mic = .waitChannel →
      s.indicate a .micRelease = (s.releaseToken (boothOf a) a .released, .taken)) ∧
    ((s.floor a).mic = .waitBooth → ∃ u, s.indicate a .micRelease = (u, .taken) ∧
      (u.floor a).mic = .off ∧ (u.floor a).lastOff = some .released ∧ u.fla.tokens = s.fla.tokens ∧
      (∀ b, u.booth b = if b = boothOf a then { s.booth b with
          requests := (s.booth b).requests.erase a
          deadline := if (s.booth b).requests.erase a = [] then none else (s.booth b).deadline } else s.booth b))) ∧
  -- DIR_A and DIR_B (R89, R98)
  (∀ (s : State) (a : Nat) (d : Direction),
    let i : Indication := match d with
      | .a => .dirA
      | .b => .dirB
    let b := boothOf a
    ((s.floor a).switch = d ∨ (s.booth b).snoop = false ∨ (s.booth b).holder ≠ some a →
      s.indicate a i = (s.setFloor a { s.floor a with switch := d }, .taken)) ∧
    ((s.floor a).switch ≠ d → (s.booth b).snoop = true → (s.booth b).holder = some a → ∃ u,
      s.indicate a i = (u, .taken) ∧ (u.floor a).switch = d ∧
      (∀ c, s.pls.boothChannel b d = some c → (s.token (busOf (s.pls.boothHall b) c)).holder = none →
        (u.floor a).mic = .live ∧ u.booth b = { s.booth b with direction := d } ∧
        (u.token (busOf (s.pls.boothHall b) c)).holder = some b) ∧
      (HoldersAtHome s → a ∉ (s.booth b).requests →
        (s.pls.boothChannel b d = none → (u.floor a).mic = .off ∧ (u.floor a).lastOff = some .noChannel) ∧
        (∀ c e, s.pls.boothChannel b d = some c → (s.token (busOf (s.pls.boothHall b) c)).holder = some e → e ≠ b →
          (u.floor a).mic = .off ∧ (u.floor a).lastOff = some .channelTaken)))) ∧
  -- RELAY_PICK (R102)
  (∀ (s : State) (a : Nat) (slot : Option (BitVec 6)),
    let b := boothOf a
    let p : Pick := match slot with
      | none => .floor
      | some l => .language l.toNat
    ((s.booth b).relayLock = true → s.indicate a (.relayPick slot) = (s, .refused .locked)) ∧
    (∀ l, (s.booth b).relayLock = false → slot = some l → 48 ≤ l.toNat →
      s.indicate a (.relayPick slot) = (s, .refused .badValue)) ∧
    (∀ r, (s.booth b).relayLock = false → (∀ l, slot = some l → l.toNat < 48) →
      s.pls.relayCheck s.picks b p = some r → s.indicate a (.relayPick slot) = (s, .refused r)) ∧
    ((s.booth b).relayLock = false → (∀ l, slot = some l → l.toNat < 48) → s.pls.relayCheck s.picks b p = none → ∃ u,
      s.indicate a (.relayPick slot) = (u, .taken) ∧
      (∀ e, u.booth e = if e = b then { s.booth e with pick := p } else s.booth e) ∧
      u.fla.consoles = s.fla.consoles ∧ u.fla.tokens = s.fla.tokens ∧
      ∀ c, u.link c = if c ∈ consolesOf b ∧ (s.booth b).pick ≠ p then (s.link c).enqueue (.relaySet p) else s.link c)) ∧
  -- CUE_OUT (R80, R81)
  (∀ (s : State) (a : Nat) (target : CueTarget) (text : Text),
    (text = [] → s.indicate a (.cueOut target text) = (s, .refused .badValue)) ∧
    (text ≠ [] → ∃ u, s.indicate a (.cueOut target text) = (u, .taken) ∧ u.fla = s.fla ∧ u.acu = s.acu ∧
      u.link a = (if 8 < text.length then { s.link a with errors := min 255 ((s.link a).errors + 1) } else s.link a) ∧
      (∀ t : Fin 32, target = .booth t → ∀ c, c ≠ a → u.link c =
        if boothOf c = t.val then (s.link c).enqueue (.cueIn (boothOf a) (text.take 8)) else s.link c) ∧
      (target = .relayTakers → s.outputLanguage (boothOf a) = none → ∀ c, c ≠ a → u.link c = s.link c) ∧
      (∀ l, target = .relayTakers → s.outputLanguage (boothOf a) = some l → ∀ c, c ≠ a → u.link c =
        if c < 96 ∧ boothOf c ≠ boothOf a ∧ s.pls.boothHall (boothOf c) = s.pls.boothHall (boothOf a) ∧
          (s.booth (boothOf c)).pick = .language l
        then (s.link c).enqueue (.cueIn (boothOf a) (text.take 8)) else s.link c))) ∧
  (∀ (s : State) (b l : Nat), s.outputLanguage b = some l ↔
    (s.pls.active.booth b).language (s.booth b).direction = some l ∧
    (s.pls.effectivePlan (s.pls.boothHall b)).carries l = true) ∧
  -- LOGIN and LOGOUT (R104, R105)
  (∀ (s : State) (a : Nat) (i : BitVec 10),
    (512 ≤ i.toNat → s.indicate a (.login i) = (s, .refused .badValue)) ∧
    (i.toNat < 512 → (s.floor a).login = some i.toNat → s.indicate a (.login i) = (s, .taken)) ∧
    (∀ k, i.toNat < 512 → (s.floor a).login = some k → k ≠ i.toNat → s.indicate a (.login i) = (s, .refused .loggedIn)) ∧
    (i.toNat < 512 → (s.floor a).login = none → s.indicate a (.login i) =
      if (s.account i.toNat).state ≠ .opened ∨ (s.account i.toNat).kind ≠ .interpreter then (s, .refused .accountState)
      else if (s.account i.toNat).console ≠ none ∧ (s.account i.toNat).console ≠ some a then (s, .refused .loggedIn)
      else ((s.setFloor a { s.floor a with login := some i.toNat }).setAccount i.toNat
        { s.account i.toNat with console := some a }, .taken))) ∧
  (∀ (s : State) (a : Nat),
    ((s.floor a).login = none → s.indicate a .logout = (s, .taken)) ∧
    (∀ k, (s.floor a).login = some k → ((s.booth (boothOf a)).loginRequired = false ∨ (s.floor a).mic = .off) →
      s.indicate a .logout = ((s.setFloor a { s.floor a with login := none }).setAccount k
        { s.account k with console := none }, .taken)) ∧
    (∀ k, (s.floor a).login = some k → (s.booth (boothOf a)).loginRequired = true → (s.floor a).mic ≠ .off →
      TokensHeld s → ∃ u, s.indicate a .logout = (u, .taken) ∧ (u.floor a).login = none ∧ (u.account k).console = none ∧
        (u.floor a).mic = .off ∧ (u.floor a).lastOff = some .logout ∧ (u.booth (boothOf a)).holder ≠ some a ∧
        a ∉ (u.booth (boothOf a)).requests))

/-- A directive list keeps its order and its limits whatever is queued: at most 6 entries, at most 4 cues, at most one waiting entry
of each other kind; a waiting mic directive stands first behind an offered head. -/
def Obligations.DirectiveListsStayInOrder : Prop :=
  (∀ (l : Link) (d : Directive), ListInOrder l → d.kind ≠ .ident → ListInOrder (l.enqueue d)) ∧
  (∀ l : Link, ListInOrder l → ListInOrder l.removeHead) ∧
  (∀ l : Link, l.hears = true → l.waiting.all (fun e => e.kind != .mic) = true → l.directives.length < 6 →
    (l.enqueue .micOn).directives = l.offeredHead ++ .micOn :: l.waiting) ∧
  (∀ (l : Link) (d : Directive), l.hears = false → l.enqueue d = l)

/-! ## Microphone floor control -/

/-- FORCE_MIC_OFF: an address above 95 is refused BAD_VALUE, and a console that is OFF refuses it NOT_LIVE. A console in the floor goes OFF
with reason FORCED and its duty timer at 0; one in WAIT_BOOTH leaves the request list, and a deadline ends with an emptied list. Hires and
plans stay. -/
def Obligations.MicIsForcedOff : Prop :=
  (∀ (tag : Tag) (a : Word) (s : State), Ready s → 96 ≤ a.toNat →
    exec (.forceMicOff tag a) s = .next (answered s s 0x50 tag .badValue [])) ∧
  (∀ (tag : Tag) (a : Word) (s : State), Ready s → a.toNat < 96 → (s.floor a.toNat).mic = .off →
    exec (.forceMicOff tag a) s = .next (answered s s 0x50 tag .notLive [])) ∧
  (∀ (tag : Tag) (a : Word) (s : State), Ready s → a.toNat < 96 → (s.floor a.toNat).mic = .waitBooth → ∃ t,
    exec (.forceMicOff tag a) s = .next t ∧ t.cpi.held = { result := .ok, code := 0x50, tag := tag, body := [] } ∧
      (t.floor a.toNat).mic = .off ∧ (t.floor a.toNat).lastOff = some .forced ∧
      (t.booth (boothOf a.toNat)).requests = (s.booth (boothOf a.toNat)).requests.erase a.toNat ∧
      (t.booth (boothOf a.toNat)).holder = (s.booth (boothOf a.toNat)).holder ∧
      ((s.booth (boothOf a.toNat)).requests.erase a.toNat = [] → (t.booth (boothOf a.toNat)).deadline = none) ∧
      t.fla.tokens = s.fla.tokens ∧ t.rpm = s.rpm ∧ t.acu = s.acu ∧ t.pls.active = s.pls.active) ∧
  (∀ (tag : Tag) (a : Word) (s : State), Ready s → a.toNat < 96 →
    ((s.floor a.toNat).mic = .live ∨ (s.floor a.toNat).mic = .waitChannel) → HoldersAtHome s →
    a.toNat ∉ (s.booth (boothOf a.toNat)).requests → ∃ t,
    exec (.forceMicOff tag a) s = .next t ∧ t.cpi.held = { result := .ok, code := 0x50, tag := tag, body := [] } ∧
      (t.floor a.toNat).mic = .off ∧ (t.floor a.toNat).lastOff = some .forced ∧ (t.floor a.toNat).dutyTimer = 0 ∧
      ((s.booth (boothOf a.toNat)).requests = [] → (t.booth (boothOf a.toNat)).holder = none) ∧
      t.rpm = s.rpm ∧ t.acu = s.acu ∧ t.pls.active = s.pls.active)

/-- How a booth token and its channel are taken and passed: a request under HANDOVER, under OVERRIDE and to a free token, with the claim of
its channel under FIRST_HOLDS and under LAST_TAKES; the pass of a released token to the head of the request list, gapless on the booth's own
channel, to a free one, to the wait list of one that is held, and past a console that has no channel; and the channel given up, which goes to
the head of its wait list. (That an override cancels the booth's handover deadline, `deadline := none` in its clause, is notes/assumptions 13:
the model's choice.) -/
def Obligations.TokensPass : Prop :=
  -- a request taken (R91, R92, R93)
  (∀ (s : State) (a t : Nat), let b := boothOf a
    (s.booth b).mode = .handover → (s.booth b).holder = some t → (s.floor t).mic = .live → t ≠ a → ∃ u,
    s.takeRequest a = u ∧ (u.floor a).mic = .waitBooth ∧
      u.booth b = { s.booth b with
        requests := (s.booth b).requests ++ [a]
        deadline := if (s.booth b).window ≠ 0 ∧ (s.booth b).deadline = none then some (s.booth b).window
          else (s.booth b).deadline } ∧
      u.fla.tokens = s.fla.tokens ∧ u.link t = (s.link t).enqueue .handoverAsked) ∧
  (∀ (s : State) (a t : Nat), let b := boothOf a
    (s.booth b).mode = .handover → (s.booth b).holder = some t → (s.floor t).mic ≠ .live → t ≠ a →
    s.takeRequest a = State.releaseToken ((s.setFloor a { s.floor a with mic := .waitBooth }).setBooth b
      { s.booth b with requests := (s.booth b).requests ++ [a] }) b t .handover) ∧
  (∀ (s : State) (a t c : Nat), let b := boothOf a
    let d := if (s.booth b).snoop = true then (s.floor a).switch else (s.booth b).direction
    (s.booth b).mode = .override → (s.booth b).holder = some t → t ≠ a → s.pls.boothChannel b d = some c →
    (s.token (busOf (s.pls.boothHall b) c)).holder = some b → HoldersAtHome s → ∃ u,
    s.takeRequest a = u ∧ (u.floor t).mic = .off ∧ (u.floor t).lastOff = some .override ∧ (u.floor a).mic = .live ∧
      u.booth b = { s.booth b with holder := some a, deadline := none, direction := d } ∧
      u.token (busOf (s.pls.boothHall b) c) = s.token (busOf (s.pls.boothHall b) c)) ∧
  (∀ (s : State) (a c : Nat), let b := boothOf a
    let d := if (s.booth b).snoop = true then (s.floor a).switch else (s.booth b).direction
    let k := busOf (s.pls.boothHall b) c
    (s.booth b).holder = none → s.pls.boothChannel b d = some c → b ∉ (s.token k).waits → ∃ u,
    s.takeRequest a = u ∧
      ((s.token k).holder = none → (u.floor a).mic = .live ∧
        u.booth b = { s.booth b with holder := some a, direction := d } ∧
        u.token k = { s.token k with holder := some b }) ∧
      (∀ e, (s.token k).holder = some e → e ≠ b → s.pls.interlock (s.pls.boothHall b) c = .firstHolds →
        (s.token k).waits.length < 4 → (u.floor a).mic = .waitChannel ∧
          u.booth b = { s.booth b with holder := some a, direction := d } ∧
          u.token k = { s.token k with waits := (s.token k).waits ++ [b] }) ∧
      (∀ e t, (s.token k).holder = some e → e ≠ b → s.pls.interlock (s.pls.boothHall b) c = .lastTakes →
        (s.booth e).holder = some t → (s.booth e).requests = [] → e ∉ (s.token k).waits → HoldersAtHome s →
          (u.floor a).mic = .live ∧ u.booth b = { s.booth b with holder := some a, direction := d } ∧
          u.token k = { s.token k with holder := some b } ∧ (u.floor t).mic = .off ∧
          (u.floor t).lastOff = some .channelTaken ∧ (u.booth e).holder = none)) ∧
  -- the token passes (R94, R95, R96)
  (∀ (s : State) (b a : Nat) (reason : OffReason), (s.booth b).requests = [] → HoldersAtHome s → boothOf a = b → ∃ u,
    s.releaseToken b a reason = u ∧ (u.floor a).mic = .off ∧ (u.floor a).lastOff = some reason ∧
      (∀ e, u.booth e = if e = b then { s.booth b with holder := none, deadline := none } else s.booth e) ∧
      (∀ c, 1 ≤ c → c ≤ 31 → u.token (busOf (s.pls.boothHall b) c) =
        let x := s.token (busOf (s.pls.boothHall b) c)
        if x.holder = some b then (match x.waits with
          | [] => { x with holder := none }
          | w :: rest => { x with holder := some w, waits := rest })
        else { x with waits := x.waits.erase b }) ∧
      (∀ c w rest o, 1 ≤ c → c ≤ 31 → (s.token (busOf (s.pls.boothHall b) c)).holder = some b →
        (s.token (busOf (s.pls.boothHall b) c)).waits = w :: rest → w ≠ b → (s.booth w).holder = some o →
        (u.floor o).mic = .live)) ∧
  (∀ (s : State) (b a n c : Nat) (rest : List Nat) (reason : OffReason), (s.booth b).requests = n :: rest →
    let d := if (s.booth b).snoop = true then (s.floor n).switch else (s.booth b).direction
    let k := busOf (s.pls.boothHall b) c
    s.pls.boothChannel b d = some c → ∃ u, s.releaseToken b a reason = u ∧
      ((s.token k).holder = some b ∨ ((s.token k).holder = none ∧ b ∉ (s.token k).waits) →
        (u.floor n).mic = .live ∧ u.token k = { s.token k with holder := some b } ∧
        u.booth b = { s.booth b with
          holder := some n, requests := rest, direction := d
          deadline := if rest ≠ [] ∧ (s.booth b).mode = .handover ∧ (s.booth b).window ≠ 0 then some (s.booth b).window
            else none }) ∧
      (∀ e, (s.token k).holder = some e → e ≠ b → b ∉ (s.token k).waits → (s.token k).waits.length < 4 →
        (rest = [] ∨ (s.booth b).mode ≠ .handover) →
        (u.floor n).mic = .waitChannel ∧ u.token k = { s.token k with waits := (s.token k).waits ++ [b] } ∧
        u.booth b = { s.booth b with holder := some n, requests := rest, direction := d, deadline := none }) ∧
      (∀ e, (s.token k).holder = some e → e ≠ b → b ∉ (s.token k).waits → 4 ≤ (s.token k).waits.length → rest = [] →
        HoldersAtHome s → boothOf n = b →
        (u.floor n).mic = .off ∧ (u.floor n).lastOff = some .channelBusy ∧ (u.booth b).holder = none ∧
        (u.booth b).requests = [])) ∧
  (∀ (s : State) (b a n : Nat) (reason : OffReason), (s.booth b).requests = [n] → HoldersAtHome s → boothOf n = b →
    s.pls.boothChannel b (if (s.booth b).snoop = true then (s.floor n).switch else (s.booth b).direction) = none → ∃ u,
    s.releaseToken b a reason = u ∧ (u.floor n).mic = .off ∧ (u.floor n).lastOff = some .noChannel ∧
      (u.booth b).holder = none ∧ (u.booth b).requests = [] ∧ (u.booth b).deadline = none) ∧
  (∀ (s : State) (b k : Nat),
    ((s.token k).holder = some b → (s.token k).waits = [] →
      s.giveUpChannel b k = s.setToken k { s.token k with holder := none }) ∧
    (∀ w rest, (s.token k).holder = some b → (s.token k).waits = w :: rest → ∃ u, s.giveUpChannel b k = u ∧
      u.token k = { s.token k with holder := some w, waits := rest } ∧ u.fla.booths = s.fla.booths ∧
      ∀ o, (s.booth w).holder = some o → (u.floor o).mic = .live ∧
        ((s.floor o).mic ≠ .live → u.link o = (s.link o).enqueue .micOn)) ∧
    ((s.token k).holder ≠ some b →
      s.giveUpChannel b k = if b ∈ (s.token k).waits then s.setToken k { s.token k with waits := (s.token k).waits.erase b }
        else s))

/-- Every step keeps the booth tokens in order: a console holds its booth's token exactly while it is LIVE or WAIT_CHANNEL and stands in the
request list exactly while it is WAIT_BOOTH; a free token has no requests, and a deadline runs only before a request. -/
def Obligations.TokensStayHeld : Prop := ∀ s t : State, TokensHeld s → step s = .next t → TokensHeld t

/-! ## Ticks -/

/-- TREF_PULSE is a tick that starts the watch afresh and leaves the tick source TREF, also during recovery (notes/assumptions 22). The
watch's expiry makes the source INTERNAL, takes a tick and enters TREF_LOST; an INTERNAL_TICK takes a tick and sets the next 1000 ms on; each
is ignored where it is not what the source waits for (notes/assumptions 3), and moves the timebase to its moment (notes/assumptions 4). A tick
raises the clock by one up to its top and the poll counter by one up to its interval; it is one live second of each LIVE console with a
login, one service second of each channel with a LIVE feeder, one second of duty timers, handover deadlines and pickup timers, and the moment
of OVERDUE and LOST. Plans, the port and the enables stay. The Floor Arbiter's shares have commands of their own, which is the model's reading
(notes/assumptions 5): at the duty limit DUTY_WARN is given to the booth's consoles once and DUTY_DUE raised, 300 seconds past it
DUTY_OVER; at 60 service seconds the counter returns to 0 and the service minute rate is posted to an OPEN organiser; at the end of a handover
deadline the holder goes OFF with reason HANDOVER. -/
def Obligations.TicksAreTaken : Prop :=
  (∀ s : State, ∃ t, exec .trefPulse s = .next t ∧ t.tau.clock = min 4294967295 (s.tau.clock + 1) ∧
    t.tau.internal = false ∧ t.tau.nextInternal = none ∧ t.tau.watch = some (s.tau.now + 1500) ∧
    t.rks.pollCounter = (if s.rks.pollInterval ≤ s.rks.pollCounter + 1 then 0 else s.rks.pollCounter + 1) ∧
    t.cpi = s.cpi ∧ t.pls.active = s.pls.active ∧ t.tau.enables = s.tau.enables ∧ t.tau.hasFault .trefLost = false) ∧
  (∀ (s : State) (m : Nat), s.tau.internal = false → s.tau.watch = some m → ∃ t, exec .trefWatchExpiry s = .next t ∧
    t.tau.clock = min 4294967295 (s.tau.clock + 1) ∧ t.tau.internal = true ∧ t.tau.watch = none ∧
    t.tau.nextInternal = some (max s.tau.now m + 1000) ∧ t.tau.hasFault .trefLost = true ∧
    t.rks.pollCounter = (if s.rks.pollInterval ≤ s.rks.pollCounter + 1 then 0 else s.rks.pollCounter + 1) ∧
    t.cpi = s.cpi ∧ t.pls.active = s.pls.active) ∧
  (∀ (s : State) (m : Nat), s.tau.internal = true → s.tau.nextInternal = some m → ∃ t, exec .internalTick s = .next t ∧
    t.tau.clock = min 4294967295 (s.tau.clock + 1) ∧ t.tau.internal = true ∧ t.tau.nextInternal = some (m + 1000) ∧
    t.rks.pollCounter = (if s.rks.pollInterval ≤ s.rks.pollCounter + 1 then 0 else s.rks.pollCounter + 1) ∧
    t.cpi = s.cpi ∧ t.pls.active = s.pls.active) ∧
  (∀ s : State, s.tau.internal = true → exec .trefWatchExpiry s = .next s.settle) ∧
  (∀ s : State, s.tau.internal = false → exec .internalTick s = .next s.settle) ∧
  -- the work of a tick, the same for the three sources
  (∀ s : State, exec .trefPulse s = .next (State.settle (State.tick
    { s with tau := { s.tau with internal := false, nextInternal := none, watch := some (s.tau.now + 1500) } })) ∧
    (∀ m, s.tau.internal = false → s.tau.watch = some m → exec .trefWatchExpiry s = .next (State.settle (State.tick
      { s with tau := { s.tau with now := max s.tau.now m, internal := true, watch := none,
                                   nextInternal := some (max s.tau.now m + 1000) } }))) ∧
    (∀ m, s.tau.internal = true → s.tau.nextInternal = some m → exec .internalTick s = .next (State.settle (State.tick
      { s with tau := { s.tau with now := max s.tau.now m, nextInternal := some (m + 1000) } })))) ∧
  (∀ (s : State) (a k : Nat), (s.floor a).mic = .live → (s.floor a).login = some k →
    (∀ c, c ≠ a → (s.floor c).mic = .live → (s.floor c).login ≠ some k) → (∀ h, (s.hall h).organiser ≠ some k) →
    (s.tick.account k).liveSeconds = (if (s.account k).frozen = true then (s.account k).liveSeconds
      else min 4294967295 ((s.account k).liveSeconds + 1)) ∧
    (s.tick.account k).heldSeconds = (if (s.account k).frozen = true then min 4294967295 ((s.account k).heldSeconds + 1)
      else (s.account k).heldSeconds) ∧
    (s.tick.account k).serviceSeconds = (s.account k).serviceSeconds) ∧
  (∀ (s : State) (h c : Nat), h < 6 → c < 32 → (s.tick.token (busOf h c)).service =
    if s.feeder h c = none then (s.token (busOf h c)).service
    else if 60 ≤ (s.token (busOf h c)).service + 1 then 0 else (s.token (busOf h c)).service + 1) ∧
  (∀ (s : State) (h k n : Nat), h < 6 → (s.hall h).organiser = some k → (∀ g, g ≠ h → (s.hall g).organiser ≠ some k) →
    n = (List.range 32).countP (fun c => (s.feeder h c).isSome) → 0 < n → (s.account k).state = .opened →
    (s.account k).frozen = false → (s.tick.account k).serviceSeconds = min 4294967295 ((s.account k).serviceSeconds + n)) ∧
  (∀ (s : State) (a : Nat), (∀ b n, (s.booth b).deadline = some n → 1 < n) → (s.floor a).dutyTimer < 4294967295 →
    s.tick.floor a = if (s.floor a).mic = .live then { s.floor a with
        dutyTimer := (s.floor a).dutyTimer + 1
        dutyWarned := (s.floor a).dutyWarned ||
          decide ((s.booth (boothOf a)).dutyLimit * 60 ≤ (s.floor a).dutyTimer + 1)
        dutyOver := (s.floor a).dutyOver ||
          decide ((s.booth (boothOf a)).dutyLimit * 60 + 300 ≤ (s.floor a).dutyTimer + 1) }
      else s.floor a) ∧
  (∀ (s : State) (b n : Nat), b < 32 → (s.booth b).deadline = some n →
    (1 < n → s.tick.booth b = { s.booth b with deadline := some (n - 1) }) ∧
    (∀ a, n ≤ 1 → (s.booth b).holder = some a → TokensHeld s → (s.tick.floor a).mic = .off ∧
      (s.tick.floor a).lastOff = some .handover ∧ (s.tick.booth b).holder ≠ some a)) ∧
  (∀ (s : State) (t : Nat) (x : Ticket), t < 8 → s.ticket t = some x → x.state = .awaitPickup →
    s.tick.ticket t = some (if x.timer ≤ 1
      then { x with state := .notTaken, ending := some .timedOut, step := none, timer := 0 }
      else { x with timer := x.timer - 1 })) ∧
  (∀ (s : State) (r : Nat) (h : Hire), (s.receiver r).hire = some h → (∀ t x, s.ticket t = some x → x.receiver ≠ some r) →
    let now := min 4294967295 (s.tau.clock + 1)
    let end_ := min 4294967295 (h.dueTime + (s.tariff h.tariff).lostGrace * 3600)
    ((s.receiver r).state = .issued → now ≤ h.dueTime → s.tick.receiver r = s.receiver r) ∧
    ((s.receiver r).state = .issued → h.dueTime < now → now ≤ end_ →
      s.tick.receiver r = { s.receiver r with state := .overdue } ∧ s.tick.tau.hasCause .hireOverdue = true) ∧
    ((s.receiver r).state = .overdue → now ≤ end_ → s.tick.receiver r = s.receiver r) ∧
    ((s.receiver r).state = .overdue → end_ < now → s.tick.receiver r = { s.receiver r with
        state := .lost, hire := some { h with lossCharge := some ((s.tariff h.tariff).lostFee - h.deposit) } } ∧
      s.tick.tau.hasCause .hireLost = true)) ∧
  -- the Floor Arbiter's shares
  (∀ (a : Fin 96) (s : State), (s.floor a).mic = .live → (s.floor a).dutyWarned = false → (s.floor a).dutyTimer < 4294967295 →
    (s.booth (boothOf a)).dutyLimit * 60 ≤ (s.floor a).dutyTimer + 1 → ∃ u, exec (.dutyWarn a) s = .next (State.settle u) ∧
      (u.floor a).dutyTimer = (s.floor a).dutyTimer + 1 ∧ (u.floor a).dutyWarned = true ∧ (u.floor a).mic = .live ∧
      (∀ c ∈ consolesOf (boothOf a), (s.link c).hears = true →
        .dutyWarn ((s.floor a).dutyTimer + 1) ∈ (u.link c).directives) ∧
      u.tau.hasCause .dutyDue = true ∧ u.fla.booths = s.fla.booths ∧ u.acu = s.acu ∧ u.pls = s.pls) ∧
  (∀ (a : Fin 96) (s : State), (s.floor a).mic = .live → (s.floor a).dutyOver = false → (s.floor a).dutyTimer < 4294967295 →
    (s.booth (boothOf a)).dutyLimit * 60 + 300 ≤ (s.floor a).dutyTimer + 1 → ∃ u,
    exec (.dutyOver a) s = .next (State.settle u) ∧
      (u.floor a).dutyTimer = (s.floor a).dutyTimer + 1 ∧ (u.floor a).dutyOver = true ∧ (u.floor a).mic = .live ∧
      u.tau.hasCause .dutyOver = true ∧ u.fla.booths = s.fla.booths ∧ u.acu = s.acu ∧ u.pls = s.pls) ∧
  (∀ (h : Fin 6) (c : Fin 32) (b a : Nat) (s : State), s.feeder h c = some b → 60 ≤ (s.token (busOf h c)).service + 1 →
    (s.hall h).organiser = some a → (s.account a).state = .opened →
    exec (.serviceMinute h c) s = .next (State.settle
      (((s.setToken (busOf h c) { s.token (busOf h c) with service := 0 }).onAccount a Account.serviceSecond).onAccount a
        fun x => x.post ((s.tariff (s.hall h).tariff).minuteRate : Nat)))) ∧
  (∀ (h : Fin 6) (c : Fin 32) (b : Nat) (s : State), s.feeder h c = some b → 60 ≤ (s.token (busOf h c)).service + 1 →
    (∀ a, (s.hall h).organiser = some a → (s.account a).state ≠ .opened) →
    exec (.serviceMinute h c) s = .next (State.settle
      (s.setToken (busOf h c) { s.token (busOf h c) with service := 0 }))) ∧
  (∀ (b : Fin 32) (a : Nat) (s : State), (s.booth b).deadline = some 1 → (s.booth b).holder = some a → HoldersAtHome s →
    a ∉ (s.booth b).requests → ∃ u, exec (.handoverExpiry b) s = .next (State.settle u) ∧ (u.floor a).mic = .off ∧
      (u.floor a).lastOff = some .handover ∧ u.rpm = s.rpm ∧ u.acu = s.acu ∧ u.pls.active = s.pls.active)

/-- The hire side's shares of a tick: a hire past its due time becomes OVERDUE; one past its lost grace becomes LOST, its loss is posted,
its deposit leaves the deposit held, the listening count falls; a ticket whose pickup timer ends becomes NOT_TAKEN, its receiver is READY
again at the head of its queue, its slot OCCUPIED with a LATCH_CLOSE asked for, and its reserve is given back; at its interval the charge
poll is made and its counter returns to 0. (That each is a command of its own is the model's reading, notes/assumptions 5.) -/
def Obligations.HireSharesOfATick : Prop :=
  (∀ (r : Fin 4096) (h : Hire) (s : State), (s.receiver r).state = .issued → (s.receiver r).hire = some h →
    h.dueTime < s.tau.clock → exec (.hireOverdue r) s = .next (State.settle
      { s.setReceiver r { s.receiver r with state := .overdue } with tau := s.tau.raise .hireOverdue })) ∧
  (∀ (r : Fin 4096) (h : Hire) (s : State), (s.receiver r).state = .issued → (s.receiver r).hire = some h →
    s.tau.clock ≤ h.dueTime → exec (.hireOverdue r) s = .next s.settle) ∧
  (∀ (r : Fin 4096) (h : Hire) (s : State), (s.receiver r).state = .overdue → (s.receiver r).hire = some h →
    min 4294967295 (h.dueTime + (s.tariff h.tariff).lostGrace * 3600) < s.tau.clock → ∃ u,
    exec (.hireLost r) s = .next (State.settle u) ∧
      u.receiver r = { s.receiver r with
        state := .lost, hire := some { h with lossCharge := some ((s.tariff h.tariff).lostFee - h.deposit) } } ∧
      u.account h.account = { (s.account h.account).post ((s.tariff h.tariff).lostFee - h.deposit : Nat) with
        deposit := (s.account h.account).deposit - h.deposit } ∧
      u.listening h.hall h.language = s.listening h.hall h.language - 1 ∧ u.tau.hasCause .hireLost = true) ∧
  (∀ (t : Fin 8) (x : Ticket) (r : Nat) (s : State), s.ticket t = some x → x.state = .awaitPickup → x.timer = 1 →
    x.receiver = some r → ∃ u, exec (.pickupTimeout t) s = .next (State.settle u) ∧
      u.ticket t = some { x with state := .notTaken, ending := some .timedOut, step := none, timer := 0 } ∧
      (u.receiver r).state = .ready ∧ (u.receiver r).ticket = none ∧ (u.receiver r).readyTime = (s.receiver r).readyTime ∧
      u.account x.account = { s.account x.account with unitsPending := (s.account x.account).unitsPending - 1 } ∧
      u.tau.hasCause .ticketDone = true ∧
      -- the head of its queue, its slot, its latch
      (∀ d, u.queue d =
        if (s.receiver r).slot.bind (fun k => (s.rack (rackOf k)).desk) = some d then r :: s.queue d else s.queue d) ∧
      ∀ k, (s.receiver r).slot = some k → (s.slot k).state = .issuing →
        u.slot k = { s.slot k with state := .occupied } ∧
        u.rack (rackOf k) = ((s.rack (rackOf k)).queueJob
          { slot := k, kind := .latchClose, origin := .rpm, preset := none, failed := 0 }).1) ∧
  (∀ s : State, s.rks.pollInterval ≤ s.rks.pollCounter + 1 → ∃ u, exec .chargePoll s = .next (State.settle u) ∧
    u.rks.pollCounter = 0 ∧ u.rks.slots = s.rks.slots ∧ u.rpm = s.rpm ∧
    ∀ k, (s.slot k).state = .occupied → (∀ r, (s.slot k).occupant = some r → (s.receiver r).state = .charging) →
      (s.slot k).occupant ≠ none → ∃ j ∈ (u.rack (rackOf k)).jobs, j.slot = k ∧ j.kind = .identify)

/-! ## Dock racks and receiver contact -/

/-- RL_SCAN_DUE makes a rack's scan fall due, once (notes/assumptions 3), and moves the timebase to its moment (notes/assumptions 4). A scan
reply with 40 readings returns the missed scan count to 0, brings a SILENT rack UP with every candidate of its slots cleared, and gives every
slot of the rack that is not DISABLED its reading; a slot that settles PRESENT is asked for its IDENTIFY, one that settles ABSENT loses its
jobs. SLOT_CHANGE is raised for a slot with change attention whose state changes, but not between EMPTY and SETTLING; a settled change in a slot
with wake, under NIGHT, returns the profile to NORMAL and raises WAKE. An EMPTY slot whose candidate becomes present is SETTLING, and a SETTLING
one whose candidate no longer is, EMPTY (that the state follows the candidate in the same reading, an UNSETTLED slot's too, is
notes/assumptions 12: the model's choice). The attempt of a contact job: an accepted START makes the first RESULT due 20 ms after it;
a refused or unanswered START, a FAILED result and 200 ms without an end fail the attempt, after which attempt 1 leaves the job at the head
for attempt 2 and attempt 2 drops the slot's jobs, makes the slot FAULT and reports the failure; a PENDING or unanswered RESULT is asked
again 20 ms after it fell due; a DONE ends the job and leaves its latch. A window that ends with no exchange is ignored (notes/assumptions 3).
The free line takes a RESULT fallen due before a SCAN fallen due before a START that is ready, within a kind the earliest, the lower rack
among equals, and each leaves what its sending leaves (the moment since which a START is ready is notes/assumptions 17, the frame kept 23:
the model's choices). -/
def Obligations.RackLineRuns : Prop :=
  (∀ (k : Fin 16) (m : Nat) (s : State), (s.rack k).nextScan = .at m → exec (.rlScanDue k) s =
    .next (State.settle ((s.reach m).setRack k { s.rack k with nextScan := .fallen m }))) ∧
  (∀ (k : Fin 16) (m : Nat) (s : State), (s.rack k).nextScan = .fallen m → exec (.rlScanDue k) s = .next s.settle) ∧
  (∀ (k : Fin 16) (started : Nat) (readings : List Bool) (s : State), s.rks.line = some (.scan k started) →
    readings.length = 40 → ∃ u, exec (.rlScanReply k readings) s = .next (State.settle u) ∧
      u.rks.line = none ∧ (u.rack k).missed = 0 ∧ (u.rack k).silent = false ∧
      (∀ i, rackOf i ≠ k → u.slot i = s.slot i) ∧
      ∀ i, rackOf i = k →
        let x := if (s.rack k).silent = true then { s.slot i with candidate := none } else s.slot i
        (x.state = .disabled → u.slot i = x) ∧
        (x.state ≠ .disabled → (x.read (readings.getD (i % 40) false)).2 = none →
          u.slot i = (x.read (readings.getD (i % 40) false)).1) ∧
        (x.state ≠ .disabled → (x.read (readings.getD (i % 40) false)).2 = some true →
          u.slot i = { x with presence := .present, candidate := none, state := .ident }) ∧
        (x.state ≠ .disabled → (x.read (readings.getD (i % 40) false)).2 = some false →
          u.slot i = { x with presence := .absent, candidate := none, state := .empty, latch := .closed,
                              occupant := none }) ∧
        (x.state ≠ .disabled → (x.read (readings.getD (i % 40) false)).2 = some true →
          ∃ j ∈ (u.rack k).jobs, j.slot = i ∧ j.kind = .identify) ∧
        (x.state ≠ .disabled → (x.read (readings.getD (i % 40) false)).2 = some false → ∀ j ∈ (u.rack k).jobs, j.slot ≠ i)) ∧
  -- SLOT_CHANGE and the wake (R121)
  (∀ (k : Fin 16) (started : Nat) (readings : List Bool) (s : State), s.rks.line = some (.scan k started) →
    readings.length = 40 → ∃ u, exec (.rlScanReply k readings) s = .next (State.settle u) ∧
      let settled := fun i => if (s.slot i).state = .disabled then none else
        (Slot.read (if (s.rack k).silent = true then { s.slot i with candidate := none } else s.slot i)
          (readings.getD (i % 40) false)).2
      (u.tau.hasCause .slotChange = true ↔ s.tau.hasCause .slotChange = true ∨
        ∃ i, rackOf i = k ∧ (s.slot i).attention = true ∧
          ((settled i = some true ∧ (s.slot i).state ≠ .ident) ∨
            (settled i = some false ∧ (s.slot i).state ≠ .empty ∧ (s.slot i).state ≠ .settling))) ∧
      (s.rks.night = true → (∃ i, rackOf i = k ∧ (s.slot i).wake = true ∧ settled i ≠ none) →
        u.rks.night = false ∧ u.tau.hasCause .wake = true) ∧
      (s.rks.night = false ∨ (∀ i, rackOf i = k → (s.slot i).wake = false ∨ settled i = none) →
        u.rks.night = s.rks.night ∧ u.tau.hasCause .wake = s.tau.hasCause .wake)) ∧
  (∀ (s : State) (i : Nat) (x : Slot), s.changeSlot i x =
    if x.attention = true ∧ (s.slot i).state ≠ x.state ∧ ¬((s.slot i).state = .empty ∧ x.state = .settling) ∧
      ¬((s.slot i).state = .settling ∧ x.state = .empty)
    then { s.setSlot i x with tau := s.tau.raise .slotChange } else s.setSlot i x) ∧
  -- readings (R119)
  (∀ (x : Slot) (r : Bool), (x.read r).1 = { x with
    candidate := (x.read r).1.candidate
    state := if (x.read r).2 ≠ none then x.state
      else if x.state = .empty ∧ (x.read r).1.candidate = some true then .settling
      else if x.state = .settling ∧ (x.read r).1.candidate ≠ some true then .empty else x.state }) ∧
  (∀ (x : Slot) (r : Bool), x.presence ≠ .unsettled → x.candidate = none →
    (x.read r).2 = none ∧ (x.read r).1.candidate = if r = (x.presence == .present) then none else some r) ∧
  (∀ (x : Slot) (c r : Bool), x.presence ≠ .unsettled → x.candidate = some c →
    (x.read r).1.candidate = none ∧ (x.read r).2 = if r = (x.presence == .present) then none else some r) ∧
  (∀ (x : Slot) (r : Bool), x.presence = .unsettled →
    (x.candidate = some r → (x.read r).2 = some r ∧ (x.read r).1.candidate = none) ∧
    (x.candidate ≠ some r → (x.read r).2 = none ∧ (x.read r).1.candidate = some r)) ∧
  -- contact jobs
  (∀ (k : Fin 16) (started : Nat) (a : Attempt) (s : State), s.rks.line = some (.start k started) →
    (s.rack k).attempt = some a → exec (.rlStartReply k true) s = .next (State.settle
      ({ s with rks := { s.rks with line := none } }.setRack k
        { s.rack k with attempt := some { a with resultDue := some (Due.from s.tau.now (a.began + 20)) } }))) ∧
  (∀ (k : Fin 16) (started : Nat) (s : State), s.rks.line = some (.start k started) → exec (.rlStartReply k false) s =
    .next (State.settle (State.attemptFails { s with rks := { s.rks with line := none } } k))) ∧
  (∀ (k : Fin 16) (a : Attempt) (m : Nat) (s : State), (s.rack k).attempt = some a → a.resultDue = some (.at m) →
    exec (.rlResultDue k) s = .next (State.settle ((s.reach m).setRack k
      { s.rack k with attempt := some { a with resultDue := some (.fallen m) } }))) ∧
  (∀ (k : Fin 16) (started fell : Nat) (a : Attempt) (j : Job) (rest : List Job) (s : State),
    s.rks.line = some (.result k started fell) → (s.rack k).attempt = some a → (s.rack k).jobs = j :: rest →
    exec (.rlResultReply k (j.slot % 40) .pending) s = .next (State.settle
      ({ s with rks := { s.rks with line := none } }.setRack k
        { s.rack k with attempt := some { a with resultDue := some (Due.from s.tau.now (fell + 20)) } })) ∧
    exec (.rlResultReply k (j.slot % 40) .failed) s =
      .next (State.settle (State.attemptFails { s with rks := { s.rks with line := none } } k)) ∧
    (j.kind ≠ .identify → j.origin ≠ .rpm → exec (.rlResultReply k (j.slot % 40) .done) s = .next (State.settle
      (({ s with rks := { s.rks with line := none } }.setRack k { s.rack k with attempt := none, jobs := rest }).setSlot j.slot
        { s.slot j.slot with latch := match j.kind with
            | .identify => (s.slot j.slot).latch
            | .preset => (s.slot j.slot).latch
            | .latchOpen => .opened
            | .latchClose => .closed })))) ∧
  (∀ (k : Fin 16) (a : Attempt) (s : State), (s.rack k).attempt = some a →
    exec (.contactAttemptTimeout k) s = .next (State.settle ((s.reach (a.began + 200)).attemptFails k))) ∧
  (∀ (k : Fin 16) (started : Nat) (s : State), s.rks.line = some (.scan k started) → exec .rlReplyWindowExpiry s =
    .next (State.settle (({ s with rks := { s.rks with line := none } }.reach (started + 1)).setRack k (s.rack k).missScan))) ∧
  (∀ (k : Fin 16) (started : Nat) (s : State), s.rks.line = some (.start k started) → exec .rlReplyWindowExpiry s =
    .next (State.settle (({ s with rks := { s.rks with line := none } }.reach (started + 1)).attemptFails k))) ∧
  (∀ (k : Fin 16) (started fell : Nat) (a : Attempt) (s : State), s.rks.line = some (.result k started fell) →
    (s.rack k).attempt = some a → exec .rlReplyWindowExpiry s =
    .next (State.settle (({ s with rks := { s.rks with line := none } }.reach (started + 1)).setRack k
      { s.rack k with attempt := some { a with
          resultDue := some (Due.from (max s.tau.now (started + 1)) (fell + 20)) } }))) ∧
  (∀ now m : Nat, Due.from now m = if m ≤ now then .fallen m else .at m) ∧
  (∀ s : State, s.rks.line = none → exec .rlReplyWindowExpiry s = .next s.settle) ∧
  (∀ (x : Rack), x.missed < 2 → x.missScan = { x with missed := x.missed + 1 }) ∧
  (∀ (x : Rack), x.missed = 2 → x.silent = false → x.missScan.missed = 3 ∧ x.missScan.silent = true ∧
    x.missScan.attempt = none) ∧
  (∀ (k : Nat) (a : Attempt) (j : Job) (rest : List Job) (s : State), (s.rack k).attempt = some a →
    (s.rack k).jobs = j :: rest → a.number = 1 →
    s.attemptFails k = s.setRack k { s.rack k with attempt := none, jobs := { j with failed := 1 } :: rest }) ∧
  (∀ (k : Nat) (a : Attempt) (j : Job) (rest : List Job) (s : State), (s.rack k).attempt = some a →
    (s.rack k).jobs = j :: rest → a.number = 2 → (s.slot j.slot).occupant = none →
    ((s.attemptFails k).slot j.slot).state = .fault ∧ ((s.attemptFails k).rack k).attempt = none ∧
    (rackOf j.slot = k → ((s.attemptFails k).rack k).jobs = rest.filter (fun i => i.slot ≠ j.slot)) ∧
    ((s.attemptFails k).slot j.slot).latch =
      (if j.kind = .latchOpen ∨ j.kind = .latchClose then .unknown else (s.slot j.slot).latch)) ∧
  (∀ (k : Nat) (a : Attempt) (j : Job) (rest : List Job) (s : State), (s.rack k).attempt = some a →
    (s.rack k).jobs = j :: rest → a.number = 2 → ∃ u,
    s.attemptFails k = State.failure u j.slot (s.slot j.slot).occupant ∧ u.rpm = s.rpm ∧ u.acu = s.acu ∧
    u.slot j.slot = { s.slot j.slot with
      state := .fault
      latch := if j.kind = .latchOpen ∨ j.kind = .latchClose then .unknown else (s.slot j.slot).latch } ∧
    (u.rack k).attempt = none ∧ (rackOf j.slot = k → (u.rack k).jobs = rest.filter (fun i => i.slot ≠ j.slot))) ∧
  -- the next exchange of the line (R114, R123)
  (∀ s : State, Ready s → s.settle.rks = s.rks.pump s.tau.now) ∧
  (∀ (x : Rack) (now : Nat), x.noteReady now = { x with
    startReady := if x.silent = false ∧ x.jobs ≠ [] ∧ x.attempt = none then some (x.startReady.getD now) else none }) ∧
  (∀ (r : Rks) (now : Nat), (r.pump now).slots = r.slots ∧ (r.line ≠ none → (r.pump now).line = r.line ∧
    (r.pump now).sent = r.sent ∧ ∀ k, (r.pump now).rack k = (r.rack k).noteReady now)) ∧
  (∀ (r : Rks) (now : Nat), r.line = none →
    let resultFell := fun k m => ∃ a, (r.rack k).attempt = some a ∧ a.resultDue = some (.fallen m) ∧ (r.rack k).jobs ≠ []
    let scanFell := fun k m => (r.rack k).nextScan = .fallen m
    let startReady := fun k m => ((r.rack k).noteReady now).startReady = some m
    let first := fun (moment : Nat → Nat → Prop) (k m : Nat) => k < 16 ∧ moment k m ∧
      ∀ j < 16, ∀ n, moment j n → m < n ∨ (m = n ∧ k ≤ j)
    (∀ k m, first resultFell k m → ∀ a j rest, (r.rack k).attempt = some a → (r.rack k).jobs = j :: rest →
      (r.pump now).line = some (.result k now m) ∧ (r.pump now).sent = resultFrame k j.slot ∧
      ∀ i, (r.pump now).rack i = if i = k then { (r.rack k).noteReady now with attempt := some { a with resultDue := none } }
        else (r.rack i).noteReady now) ∧
    ((∀ k < 16, ∀ m, ¬ resultFell k m) →
      (∀ k m, first scanFell k m →
        (r.pump now).line = some (.scan k now) ∧ (r.pump now).sent = scanFrame k ∧
        ∀ i, (r.pump now).rack i = if i = k then { (r.rack k).noteReady now with
            lastScan := some now, nextScan := .at (now + if r.night = true then (r.rack k).night else (r.rack k).normal) }
          else (r.rack i).noteReady now) ∧
      ((∀ k < 16, ∀ m, ¬ scanFell k m) →
        (∀ k m, first startReady k m → ∀ j rest, (r.rack k).jobs = j :: rest →
          (r.pump now).line = some (.start k now) ∧ (r.pump now).sent = startFrame k j ∧
          ∀ i, (r.pump now).rack i = if i = k then { r.rack k with
              attempt := some { number := j.failed + 1, began := now, resultDue := none }, startReady := none }
            else (r.rack i).noteReady now) ∧
        ((∀ k < 16, ∀ m, ¬ startReady k m) → (r.pump now).line = none ∧ (r.pump now).sent = r.sent ∧
          ∀ i, (r.pump now).rack i = (r.rack i).noteReady now))))

/-- An IDENTIFY that ends in DONE with a serial of no record makes a slot without an occupant FOREIGN and raises FOREIGN_UNIT; with
the serial of a receiver in STOCK and good health it docks the receiver CHARGING, or READY at the tail of its desk's queue when its
battery is at the threshold, and the slot is OCCUPIED by it. What an identification makes of a known receiver (HiresOpenAndClose states which
RESULT replies bring one): in its own slot it is examined by its state; without a slot, in STOCK, LOOSE or FAULTY, it is docked by its health. -/
def Obligations.ReceiversAreIdentified : Prop :=
  (∀ (k : Fin 16) (started fell : Nat) (a : Attempt) (j : Job) (rest : List Job) (serial : Word) (battery : Nat)
    (health : Health) (s : State), s.rks.line = some (.result k started fell) → (s.rack k).attempt = some a →
    (s.rack k).jobs = j :: rest → j.kind = .identify → serial ≠ 0 → battery ≤ 100 → (s.slot j.slot).occupant = none →
    s.rpm.bySerial serial = none → ∃ u,
    exec (.rlResultReply k (j.slot % 40) (.doneIdentify serial battery health)) s = .next (State.settle u) ∧
      (u.slot j.slot).state = .foreign ∧ (u.slot j.slot).occupant = none ∧ u.tau.hasCause .foreignUnit = true ∧
      u.rpm = s.rpm ∧ u.acu = s.acu) ∧
  (∀ (k : Fin 16) (started fell r : Nat) (a : Attempt) (j : Job) (rest : List Job) (serial : Word) (battery : Nat)
    (s : State), s.rks.line = some (.result k started fell) → (s.rack k).attempt = some a →
    (s.rack k).jobs = j :: rest → j.kind = .identify → serial ≠ 0 → battery ≤ 100 → (s.slot j.slot).occupant = none →
    s.rpm.bySerial serial = some r → (s.receiver r).state = .stock → (s.receiver r).slot = none → rackOf j.slot = k → ∃ u,
    exec (.rlResultReply k (j.slot % 40) (.doneIdentify serial battery .ok)) s = .next (State.settle u) ∧
      (u.slot j.slot).state = .occupied ∧ (u.slot j.slot).occupant = some r ∧ (u.receiver r).slot = some j.slot ∧
      (u.receiver r).battery = some battery ∧
      (u.receiver r).state = (if s.rpm.threshold ≤ battery then .ready else .charging) ∧
      (s.rpm.threshold ≤ battery → (u.receiver r).readyTime = s.tau.clock) ∧
      (∀ d, u.queue d = if s.rpm.threshold ≤ battery ∧ (s.rack k).desk = some d then s.queue d ++ [r] else s.queue d) ∧
      u.acu = s.acu) ∧
  -- in its own slot (R139)
  (∀ (k r : Nat) (serial : Word) (battery : Nat) (health : Health) (s : State), s.rpm.bySerial serial = some r →
    (s.receiver r).slot = some k →
    let u := s.identification k serial battery health
    let x := { s.receiver r with battery := some battery }
    (u.slot k).state = .occupied ∧ (u.slot k).occupant = some r ∧ u.acu = s.acu ∧ (∀ q, q ≠ r → u.receiver q = s.receiver q) ∧
    (health = .ok → (s.receiver r).state = .charging → s.rpm.threshold ≤ battery →
      u.receiver r = { x with state := .ready, readyTime := s.tau.clock } ∧
      ∀ d, u.queue d = if (s.rack (rackOf k)).desk = some d then s.queue d ++ [r] else s.queue d) ∧
    (health = .ok → ((s.receiver r).state ≠ .charging ∨ battery < s.rpm.threshold) →
      u.receiver r = x ∧ ∀ d, u.queue d = s.queue d) ∧
    (health = .fault → ((s.receiver r).state = .charging ∨ (s.receiver r).state = .ready) →
      u.receiver r = { x with state := .faulty } ∧
      ∀ d < 4, u.queue d = if (s.receiver r).state = .ready then (s.queue d).erase r else s.queue d) ∧
    (health = .fault → (s.receiver r).state ≠ .charging → (s.receiver r).state ≠ .ready →
      u.receiver r = x ∧ ∀ d, u.queue d = s.queue d)) ∧
  -- without a slot (R138)
  (∀ (k r : Nat) (serial : Word) (battery : Nat) (health : Health) (s : State), s.rpm.bySerial serial = some r →
    (s.receiver r).slot = none →
    ((s.receiver r).state = .stock ∨ (s.receiver r).state = .loose ∨ (s.receiver r).state = .faulty) →
    let u := s.identification k serial battery health
    let x := { s.receiver r with battery := some battery, slot := some k }
    (u.slot k).state = .occupied ∧ (u.slot k).occupant = some r ∧ u.acu = s.acu ∧ (∀ q, q ≠ r → u.receiver q = s.receiver q) ∧
    (health = .fault → u.receiver r = { x with state := .faulty } ∧ ∀ d, u.queue d = s.queue d) ∧
    (health = .ok → battery < s.rpm.threshold → u.receiver r = { x with state := .charging } ∧ ∀ d, u.queue d = s.queue d) ∧
    (health = .ok → s.rpm.threshold ≤ battery → u.receiver r = { x with state := .ready, readyTime := s.tau.clock } ∧
      ∀ d, u.queue d = if (s.rack (rackOf k)).desk = some d then s.queue d ++ [r] else s.queue d))

/-- SET_RACK replaces role, desk and intervals together, a changed interval in force moves the next scan, due at once where its moment has
passed, and is refused IN_USE where it would change the role or desk of a rack that holds a receiver. SET_SLOT replaces change attention and
wake, makes a DISABLED slot EMPTY with presence UNSETTLED, disables a slot that holds no receiver, and is refused IN_USE otherwise. A value
out of range is refused BAD_VALUE. (That the moment of a scan is compared with the timebase's is notes/assumptions 4: the model's choice.)
-/
def Obligations.RacksAndSlotsAreSet : Prop :=
  (∀ (tag : Tag) (rack role desk normal night : Word) (d : Option Nat) (n g : Nat) (s : State), Ready s → rack.toNat < 16 →
    deskField role desk = some d → intervalField normal = some n → intervalField night = some g →
    (d = (s.rack rack.toNat).desk ∨ ∀ i ∈ slotsOf rack.toNat, (s.slot i).occupant = none) → ∃ x,
    exec (.setRack tag rack role desk normal night) s = .next (answered s (s.setRack rack.toNat x) 0x60 tag .ok []) ∧
      x.desk = d ∧ x.normal = n ∧ x.night = g ∧ x.jobs = (s.rack rack.toNat).jobs ∧ x.silent = (s.rack rack.toNat).silent ∧
      x.missed = (s.rack rack.toNat).missed ∧
      (let old := (s.rack rack.toNat).interval s.rks.night
        let new := if s.rks.night then g else n
        (new = old → x.nextScan = (s.rack rack.toNat).nextScan) ∧
        ∀ m, new ≠ old → (s.rack rack.toNat).lastScan = some m →
          x.nextScan = if m + new ≤ s.tau.now then .fallen s.tau.now else .at (m + new))) ∧
  (∀ (tag : Tag) (rack role desk normal night : Word) (d : Option Nat) (n g : Nat) (s : State), Ready s → rack.toNat < 16 →
    deskField role desk = some d → intervalField normal = some n → intervalField night = some g →
    d ≠ (s.rack rack.toNat).desk → (∃ i ∈ slotsOf rack.toNat, (s.slot i).occupant ≠ none) →
    exec (.setRack tag rack role desk normal night) s = .next (answered s s 0x60 tag .inUse [])) ∧
  (∀ (tag : Tag) (slot enable attention wake : Word) (e a w : Bool) (s : State), Ready s → slot.toNat < 640 →
    onOff enable = some e → onOff attention = some a → onOff wake = some w → e = ((s.slot slot.toNat).state != .disabled) →
    (e = true ∨ (s.slot slot.toNat).occupant = none) →
    exec (.setSlot tag slot enable attention wake) s =
      .next (answered s (s.setSlot slot.toNat { s.slot slot.toNat with attention := a, wake := w }) 0x61 tag .ok [])) ∧
  (∀ (tag : Tag) (slot attention wake : Word) (a w : Bool) (s : State), Ready s → slot.toNat < 640 →
    onOff attention = some a → onOff wake = some w → (s.slot slot.toNat).state = .disabled →
    exec (.setSlot tag slot 1 attention wake) s =
      .next (answered s (s.setSlot slot.toNat { s.slot slot.toNat with
        state := .empty, presence := .unsettled, candidate := none, attention := a, wake := w }) 0x61 tag .ok [])) ∧
  (∀ (tag : Tag) (slot attention wake : Word) (a w : Bool) (s : State), Ready s → slot.toNat < 640 →
    onOff attention = some a → onOff wake = some w → (s.slot slot.toNat).state ≠ .disabled →
    (s.slot slot.toNat).state ≠ .issuing → (s.slot slot.toNat).occupant = none →
    exec (.setSlot tag slot 0 attention wake) s =
      .next (answered s ((s.dropJobs slot.toNat).setSlot slot.toNat { s.slot slot.toNat with
        state := .disabled, presence := .absent, candidate := none, attention := a, wake := w }) 0x61 tag .ok [])) ∧
  (∀ (tag : Tag) (slot attention wake : Word) (a w : Bool) (s : State), Ready s → slot.toNat < 640 →
    onOff attention = some a → onOff wake = some w →
    ((s.slot slot.toNat).occupant ≠ none ∨ (s.slot slot.toNat).state = .issuing) →
    exec (.setSlot tag slot 0 attention wake) s = .next (answered s s 0x61 tag .inUse [])) ∧
  (∀ (tag : Tag) (rack role desk normal night : Word) (s : State), Ready s →
    (16 ≤ rack.toNat ∨ 1 < role.toNat ∨ (role = 0 ∧ 4 ≤ desk.toNat) ∨ intervalField normal = none ∨ intervalField night = none) →
    exec (.setRack tag rack role desk normal night) s = .next (answered s s 0x60 tag .badValue [])) ∧
  (∀ (tag : Tag) (slot enable attention wake : Word) (s : State), Ready s →
    (640 ≤ slot.toNat ∨ 1 < enable.toNat ∨ 1 < attention.toNat ∨ 1 < wake.toNat) →
    exec (.setSlot tag slot enable attention wake) s = .next (answered s s 0x61 tag .badValue []))

/-- SET_RELAY: a pick that passes the relay check is the booth's pick, and where it differs RELAY_SET is queued for the booth's consoles and
its relay input takes its desired source as an URGENT destination; one that fails it is refused with the reason. SET_BOOTH_FLOOR replaces
the seven fields together and a window of 0 cancels a running deadline; where the current direction changes, the booth gives up its places
and its holder is LIVE on the channel of the new direction where it is free, and goes OFF with CHANNEL_TAKEN or NO_CHANNEL otherwise.
SET_SCAN_PROFILE and SET_CHARGE_POLL set their setting and answer OK; a change of profile moves every rack's next scan, which falls due at
once where its moment has passed. SET_POOL replaces threshold and timeout together; SET_TARIFF its nine fields. A value out of range is
refused BAD_VALUE. (That the moment of a scan is compared with the timebase's is notes/assumptions 4: the model's choice.) -/
def Obligations.SettingsAreTaken : Prop :=
  (∀ (tag : Tag) (booth pick : Word) (p : Pick) (s : State), Ready s → booth.toNat < 32 → pickField pick = some p →
    s.pls.relayCheck s.picks booth.toNat p = none → ∃ t,
    exec (.setRelay tag booth pick) s = .next t ∧ t.cpi.held = { result := .ok, code := 0x51, tag := tag, body := [] } ∧
      (∀ b, t.booth b = if b = booth.toNat then { s.booth b with pick := p } else s.booth b) ∧
      t.fla.consoles = s.fla.consoles ∧ t.fla.tokens = s.fla.tokens ∧ t.pls.active = s.pls.active ∧ t.rpm = s.rpm ∧
      t.acu = s.acu ∧
      -- RELAY_SET for the consoles of the booth, and the floor notice of its relay input (R101, R102)
      (∀ a, { t.link a with offered := (s.link a).offered } =
        if boothOf a = booth.toNat ∧ (s.booth booth.toNat).pick ≠ p then (s.link a).enqueue (.relaySet p) else s.link a) ∧
      (∀ d, d ≠ 192 + booth.toNat ∨ (s.booth booth.toNat).pick = p →
        { t.route d with attempts := 0 } = { s.route d with attempts := 0 }) ∧
      ((s.booth booth.toNat).pick = p → t.rte.urgent = s.rte.urgent ∧ t.rte.bulk = s.rte.bulk) ∧
      ((s.booth booth.toNat).pick ≠ p → let d := 192 + booth.toNat
        let new := t.desiredSource d
        (new = (s.route d).desired → { t.route d with attempts := 0 } = { s.route d with attempts := 0 } ∧
          t.rte.urgent = s.rte.urgent ∧ t.rte.bulk = s.rte.bulk) ∧
        (new ≠ (s.route d).desired → (s.route d).status = .stuck →
          { t.route d with attempts := 0 } = { s.route d with desired := new, attempts := 0 } ∧
          t.rte.urgent = s.rte.urgent ∧ t.rte.bulk = s.rte.bulk) ∧
        (new ≠ (s.route d).desired → (s.route d).status ≠ .stuck → (s.route d).confirmed = some new →
          { t.route d with attempts := 0 } =
            { s.route d with desired := new, status := .settled, mark := false, attempts := 0 } ∧
          t.rte.urgent = s.rte.urgent.erase d ∧ t.rte.bulk = s.rte.bulk.erase d) ∧
        (new ≠ (s.route d).desired → (s.route d).status ≠ .stuck → (s.route d).confirmed ≠ some new →
          { t.route d with attempts := 0 } = { s.route d with desired := new, status := .pending, attempts := 0 } ∧
          (d ∈ s.rte.urgent → t.rte.urgent = s.rte.urgent ∧ t.rte.bulk = s.rte.bulk) ∧
          (d ∉ s.rte.urgent → t.rte.urgent = s.rte.urgent ++ [d] ∧ t.rte.bulk = s.rte.bulk.erase d)))) ∧
  (∀ (tag : Tag) (booth pick : Word) (p : Pick) (r : Result) (s : State), Ready s → booth.toNat < 32 →
    pickField pick = some p → s.pls.relayCheck s.picks booth.toNat p = some r →
    exec (.setRelay tag booth pick) s = .next (answered s s 0x51 tag r [])) ∧
  (∀ (tag : Tag) (booth pick : Word) (s : State), Ready s → (31 < booth.toNat ∨ pickField pick = none) →
    exec (.setRelay tag booth pick) s = .next (answered s s 0x51 tag .badValue [])) ∧
  (∀ (tag : Tag) (booth mode window limit login snoop forced lock : Word) (f : FloorSettings) (s : State), Ready s →
    booth.toNat < 32 → settingsOf mode window limit login snoop forced lock = some f → (s.booth booth.toNat).holder = none →
    ∃ t, exec (.setBoothFloor tag booth mode window limit login snoop forced lock) s = .next t ∧
      t.cpi.held = { result := .ok, code := 0x52, tag := tag, body := [] } ∧
      t.booth booth.toNat = { s.booth booth.toNat with
        mode := f.mode, window := f.window, dutyLimit := f.dutyLimit, loginRequired := f.loginRequired, snoop := f.snoop
        forced := f.forced, relayLock := f.relayLock
        deadline := if f.window = 0 then none else (s.booth booth.toNat).deadline
        direction := if f.snoop then (s.booth booth.toNat).direction else f.forced } ∧
      (∀ b, b ≠ booth.toNat → t.booth b = s.booth b) ∧ t.rpm = s.rpm ∧ t.acu = s.acu ∧ t.pls.active = s.pls.active) ∧
  (∀ (tag : Tag) (booth mode window limit login snoop forced lock : Word) (f : FloorSettings) (s : State), Ready s →
    booth.toNat < 32 → settingsOf mode window limit login snoop forced lock = some f →
    ∃ t, exec (.setBoothFloor tag booth mode window limit login snoop forced lock) s = .next t ∧
      t.cpi.held = { result := .ok, code := 0x52, tag := tag, body := [] } ∧
      (t.booth booth.toNat).mode = f.mode ∧ (t.booth booth.toNat).window = f.window ∧
      (t.booth booth.toNat).dutyLimit = f.dutyLimit ∧ (t.booth booth.toNat).loginRequired = f.loginRequired ∧
      (t.booth booth.toNat).snoop = f.snoop ∧ (t.booth booth.toNat).forced = f.forced ∧
      (t.booth booth.toNat).relayLock = f.relayLock ∧ (t.booth booth.toNat).pick = (s.booth booth.toNat).pick ∧
      (f.window = 0 → (t.booth booth.toNat).deadline = none)) ∧
  -- the direction set anew while the booth has a holder: none, or a direction change (R89, R98)
  (∀ (tag : Tag) (booth mode window limit login snoop forced lock : Word) (f : FloorSettings) (a : Nat) (s : State), Ready s →
    booth.toNat < 32 → settingsOf mode window limit login snoop forced lock = some f → (s.booth booth.toNat).holder = some a →
    boothOf a = booth.toNat → HoldersAtHome s →
    let b := booth.toNat
    let d := if f.snoop = true then (s.floor a).switch else f.forced
    let x := { s.booth b with
      mode := f.mode, window := f.window, dutyLimit := f.dutyLimit, loginRequired := f.loginRequired, snoop := f.snoop
      forced := f.forced, relayLock := f.relayLock, deadline := if f.window = 0 then none else (s.booth b).deadline
      direction := d }
    ∃ t, exec (.setBoothFloor tag booth mode window limit login snoop forced lock) s = .next t ∧
      (d = (s.booth b).direction → t.booth b = x ∧ t.floor a = s.floor a ∧ t.fla.tokens = s.fla.tokens) ∧
      (d ≠ (s.booth b).direction →
        (∀ c, s.pls.boothChannel b d = some c → let k := busOf (s.pls.boothHall b) c
          ((s.token k).holder = none ∨ ((s.token k).holder = some b ∧ (s.token k).waits = []) →
            t.booth b = x ∧ (t.floor a).mic = .live ∧
            t.token k = { s.token k with holder := some b, waits := (s.token k).waits.erase b } ∧
            ∀ e, 1 ≤ e → e ≤ 31 → e ≠ c → t.token (busOf (s.pls.boothHall b) e) =
              let y := s.token (busOf (s.pls.boothHall b) e)
              if y.holder = some b then (match y.waits with
                | [] => { y with holder := none }
                | w :: rest => { y with holder := some w, waits := rest })
              else { y with waits := y.waits.erase b }) ∧
          (∀ e, (s.token k).holder = some e → e ≠ b → b ∉ (s.token k).waits.erase b → (s.booth b).requests = [] →
            t.booth b = { x with holder := none, deadline := none } ∧ (t.floor a).mic = .off ∧
            (t.floor a).lastOff = some .channelTaken ∧
            t.token k = { s.token k with waits := (s.token k).waits.erase b })) ∧
        (s.pls.boothChannel b d = none → (s.booth b).requests = [] →
          t.booth b = { x with holder := none, deadline := none } ∧ (t.floor a).mic = .off ∧
          (t.floor a).lastOff = some .noChannel))) ∧
  (∀ (s : State) (b a : Nat) (d : Direction), let u := (s.setBooth b { s.booth b with direction := d }).giveUp b none
    (s.pls.boothChannel b d = none → s.changeDirection b a d = u.releaseToken b a .noChannel) ∧
    (∀ c, s.pls.boothChannel b d = some c → (u.token (busOf (s.pls.boothHall b) c)).holder ≠ none →
      s.changeDirection b a d = u.releaseToken b a .channelTaken)) ∧
  (∀ (mode window limit login snoop forced lock : Word) (f : FloorSettings),
    settingsOf mode window limit login snoop forced lock = some f ↔
    modeField mode = some f.mode ∧ f.window = window.toNat ∧ window.toNat ≤ 60 ∧ f.dutyLimit = limit.toNat ∧
    5 ≤ limit.toNat ∧ limit.toNat ≤ 60 ∧ onOff login = some f.loginRequired ∧ onOff snoop = some f.snoop ∧
    directionField forced = some f.forced ∧ onOff lock = some f.relayLock) ∧
  (∀ (tag : Tag) (booth mode window limit login snoop forced lock : Word) (s : State), Ready s →
    (31 < booth.toNat ∨ settingsOf mode window limit login snoop forced lock = none) →
    exec (.setBoothFloor tag booth mode window limit login snoop forced lock) s =
      .next (answered s s 0x52 tag .badValue [])) ∧
  (∀ (tag : Tag) (profile : Word) (p : Bool) (s : State), Ready s → onOff profile = some p →
    exec (.setScanProfile tag profile) s = .next (answered s (s.setProfile p) 0x62 tag .ok []) ∧
    (s.setProfile p).rks.night = p ∧ (s.rks.night = p → s.setProfile p = s) ∧
    (s.rks.night ≠ p → ∀ k m, (s.rack k).lastScan = some m → ((s.setProfile p).rack k).nextScan =
      if m + (if p = true then (s.rack k).night else (s.rack k).normal) ≤ s.tau.now then .fallen s.tau.now
      else .at (m + if p = true then (s.rack k).night else (s.rack k).normal))) ∧
  (∀ (tag : Tag) (profile : Word) (s : State), Ready s → 1 < profile.toNat →
    exec (.setScanProfile tag profile) s = .next (answered s s 0x62 tag .badValue [])) ∧
  (∀ (tag : Tag) (n : Word) (s : State), Ready s → 10 ≤ n.toNat → n.toNat ≤ 600 → exec (.setChargePoll tag n) s =
    .next (answered s { s with rks := { s.rks with pollInterval := n.toNat, pollCounter := 0 } } 0x63 tag .ok [])) ∧
  (∀ (tag : Tag) (n : Word) (s : State), Ready s → (n.toNat < 10 ∨ 600 < n.toNat) →
    exec (.setChargePoll tag n) s = .next (answered s s 0x63 tag .badValue [])) ∧
  (∀ (tag : Tag) (threshold timeout : Word) (s : State), Ready s → 50 ≤ threshold.toNat → threshold.toNat ≤ 100 →
    10 ≤ timeout.toNat → timeout.toNat ≤ 120 → exec (.setPool tag threshold timeout) s =
      .next (answered s { s with rpm := { s.rpm with threshold := threshold.toNat, pickupTimeout := timeout.toNat } }
        0x75 tag .ok [])) ∧
  (∀ (tag : Tag) (threshold timeout : Word) (s : State), Ready s →
    (threshold.toNat < 50 ∨ 100 < threshold.toNat ∨ timeout.toNat < 10 ∨ 120 < timeout.toNat) →
    exec (.setPool tag threshold timeout) s = .next (answered s s 0x75 tag .badValue [])) ∧
  (∀ (tag : Tag) (f b r c h o g d l m : Word) (x : Tariff) (s : State), Ready s → f.toNat < 8 →
    tariffOf b r c h o g d l m = some x →
    exec (.setTariff tag f b r c h o g d l m) s = .next (answered s (s.setTariff f.toNat x) 0x87 tag .ok []) ∧
      x = { blockLength := b.toNat, blockRate := r.toNat, cap := c.toNat, hireLimit := h.toNat, overdueRate := o.toNat,
            lostGrace := g.toNat, deposit := d.toNat, lostFee := l.toNat, minuteRate := m.toNat }) ∧
  (∀ b r c h o g d l m : Word, tariffOf b r c h o g d l m ≠ none ↔ 15 ≤ b.toNat ∧ b.toNat ≤ 240 ∧ r.toNat ≤ 1000000 ∧
    c.toNat ≤ 1000000 ∧ 1 ≤ h.toNat ∧ h.toNat ≤ 72 ∧ o.toNat ≤ 1000000 ∧ g.toNat ≤ 72 ∧ d.toNat ≤ 10000000 ∧
    d.toNat ≤ l.toNat ∧ l.toNat ≤ 20000000 ∧ m.toNat ≤ 1000000) ∧
  (∀ (tag : Tag) (f b r c h o g d l m : Word) (s : State), Ready s →
    (8 ≤ f.toNat ∨ l.toNat < d.toNat ∨ b.toNat < 15 ∨ 240 < b.toNat ∨ 1000000 < r.toNat ∨ 1000000 < c.toNat ∨
      h.toNat < 1 ∨ 72 < h.toNat ∨ 1000000 < o.toNat ∨ 72 < g.toNat ∨ 10000000 < d.toNat ∨ 20000000 < l.toNat ∨
      1000000 < m.toNat) →
    exec (.setTariff tag f b r c h o g d l m) s = .next (answered s s 0x87 tag .badValue []))

/-- IDENTIFY_SLOT queues an IDENTIFY of origin HOST at the tail of the rack's list for a slot in OCCUPIED, FOREIGN or FAULT; a twin
already listed makes it answer OK with nothing queued; other states refuse it NOT_PRESENT or BUSY, and a number above 639 BAD_VALUE. How
every contact job is queued: a slot that is DISABLED, EMPTY or SETTLING takes none, but an EMPTY one the LATCH_CLOSE of a soft reset; a job
with a twin in flight or waiting is not queued, a PRESET replacing the arguments of the one that waits; an issue job joins behind the last
issue job, ahead of every IDENTIFY behind it, and an IDENTIFY at the tail, each behind the job in flight. (That an issue job stays behind an
IDENTIFY that waits ahead of issue jobs is notes/assumptions 40: the model's choice.) -/
def Obligations.SlotsAreIdentified : Prop :=
  (∀ (tag : Tag) (slot : Word) (s : State), Ready s → slot.toNat < 640 →
    ((s.slot slot.toNat).state = .occupied ∨ (s.slot slot.toNat).state = .foreign ∨ (s.slot slot.toNat).state = .fault) →
    (∀ j ∈ (s.rack (rackOf slot.toNat)).jobs, j.slot = slot.toNat → j.kind ≠ .identify) →
    exec (.identifySlot tag slot) s =
      .next (answered s (s.setRack (rackOf slot.toNat) { s.rack (rackOf slot.toNat) with
        jobs := (s.rack (rackOf slot.toNat)).jobs ++
          [{ slot := slot.toNat, kind := .identify, origin := .host, preset := none, failed := 0 }] }) 0x64 tag .ok [])) ∧
  (∀ (tag : Tag) (slot : Word) (s : State), Ready s → slot.toNat < 640 →
    ((s.slot slot.toNat).state = .occupied ∨ (s.slot slot.toNat).state = .foreign ∨ (s.slot slot.toNat).state = .fault) →
    (∃ j ∈ (s.rack (rackOf slot.toNat)).jobs, j.slot = slot.toNat ∧ j.kind = .identify) → ∃ u,
    exec (.identifySlot tag slot) s = .next (answered s u 0x64 tag .ok []) ∧
      (∀ k, (u.rack k).jobs = (s.rack k).jobs) ∧ u.rks.slots = s.rks.slots) ∧
  (∀ (tag : Tag) (slot : Word) (s : State), Ready s → slot.toNat < 640 →
    ((s.slot slot.toNat).state = .disabled ∨ (s.slot slot.toNat).state = .empty ∨ (s.slot slot.toNat).state = .settling) →
    exec (.identifySlot tag slot) s = .next (answered s s 0x64 tag .notPresent [])) ∧
  (∀ (tag : Tag) (slot : Word) (s : State), Ready s → slot.toNat < 640 →
    ((s.slot slot.toNat).state = .ident ∨ (s.slot slot.toNat).state = .issuing) →
    exec (.identifySlot tag slot) s = .next (answered s s 0x64 tag .busy [])) ∧
  (∀ (tag : Tag) (slot : Word) (s : State), Ready s → 640 ≤ slot.toNat →
    exec (.identifySlot tag slot) s = .next (answered s s 0x64 tag .badValue [])) ∧
  -- how a contact job is queued (R122): what its slot refuses
  (∀ (s : State) (j : Job), let state := (s.slot j.slot).state
    let refused := state = .disabled ∨ state = .settling ∨ (state = .empty ∧ ¬(j.kind = .latchClose ∧ j.origin = .reset))
    (refused → s.queueJob j = (s, .noPresence)) ∧
    (¬ refused → s.queueJob j = (s.setRack (rackOf j.slot) ((s.rack (rackOf j.slot)).queueJob j).1,
      ((s.rack (rackOf j.slot)).queueJob j).2))) ∧
  -- its place in the list
  (∀ (x : Rack) (j : Job), let twin := fun i : Job => i.slot = j.slot ∧ i.kind = j.kind
    let inFlight := if x.attempt = none then [] else x.jobs.take 1
    let waiting := if x.attempt = none then x.jobs else x.jobs.drop 1
    ((∃ i ∈ inFlight, twin i) → x.queueJob j = (x, .twinInFlight)) ∧
    ((∀ i ∈ inFlight, ¬ twin i) →
      ((∃ i ∈ waiting, twin i) → ∀ replaced,
        replaced = (waiting.map fun i => if j.kind = .preset ∧ twin i then { i with preset := j.preset } else i) →
        x.queueJob j = ({ x with jobs := inFlight ++ replaced }, .waitingTwin)) ∧
      ((∀ i ∈ waiting, ¬ twin i) →
        (j.kind = .identify → x.queueJob j = ({ x with jobs := x.jobs ++ [j] }, .queued)) ∧
        (j.kind ≠ .identify → ∀ before identifies, waiting = before ++ identifies → (∀ i ∈ identifies, i.kind = .identify) →
          (∀ i, before.getLast? = some i → i.kind ≠ .identify) →
          x.queueJob j = ({ x with jobs := inFlight ++ before ++ j :: identifies }, .queued))))) ∧
  (∀ waiting : List Job, ∃ before identifies, waiting = before ++ identifies ∧ (∀ i ∈ identifies, i.kind = .identify) ∧
    ∀ i, before.getLast? = some i → i.kind ≠ .identify)

/-- READ_SLOT, READ_RACK, READ_QUEUE, READ_RECEIVER, READ_LISTENING, READ_TARIFF and READ_CLOCK change nothing: what they return is read
from the records, word by word in the order of their rules. A value out of range is refused BAD_VALUE. (The order of the words of composite
fields is notes/assumptions 8; the remaining and elapsed times of READ_RACK stand on the model's timebase, notes/assumptions 4, its job in
flight on 41, the absent fields of READ_RECEIVER on 28 and 42: the model's choices.) -/
def Obligations.HireReads : Prop :=
  (∀ (tag : Tag) (k : Word) (s : State), Ready s → k.toNat < 640 →
    exec (.readSlot tag k) s = .next (answered s s 0x65 tag .ok
      ((s.slot k.toNat).words ++ (s.rack (rackOf k.toNat)).jobWords k.toNat))) ∧
  (∀ (tag : Tag) (k : Word) (s : State), Ready s → k.toNat < 16 →
    exec (.readRack tag k) s = .next (answered s s 0x66 tag .ok
      ((s.rack k.toNat).words s.tau.now ++ [boolWord s.rks.night, natWord s.rks.pollInterval, natWord s.rks.pollCounter]
        ++ slotStates.map fun x => natWord ((slotsOf k.toNat).countP fun i => (s.slot i).state == x)))) ∧
  (∀ (tag : Tag) (d : Word) (s : State), Ready s → d.toNat < 4 →
    exec (.readQueue tag d) s = .next (answered s s 0x76 tag .ok
      (natWord (s.queue d.toNat).length :: listWords s.queueEntry ((s.queue d.toNat).take 16)))) ∧
  (∀ (tag : Tag) (serial : Word) (r : Nat) (s : State), Ready s → s.rpm.bySerial serial = some r →
    exec (.readReceiver tag 0 serial) s = .next (answered s s 0x7A tag .ok (s.receiverAnswer r))) ∧
  (∀ (tag : Tag) (serial : Word) (s : State), Ready s → s.rpm.bySerial serial = none →
    exec (.readReceiver tag 0 serial) s = .next (answered s s 0x7A tag .noReceiver [])) ∧
  (∀ (tag : Tag) (r : Word) (s : State), Ready s → r.toNat < 4096 →
    exec (.readReceiver tag 1 r) s = .next (answered s s 0x7A tag .ok (s.receiverAnswer r.toNat))) ∧
  (∀ (tag : Tag) (hall : Word) (h : Nat) (s : State), Ready s → hallField s.cpi.window hall = some h →
    exec (.readListening tag hall) s = .next (answered s s 0x7B tag .ok
      ((List.range 48).map (fun l => natWord (s.listening h l)) ++
        (List.range 48).map fun l => natWord (s.openTickets h l)))) ∧
  (∀ (tag : Tag) (f : Word) (s : State), Ready s → f.toNat < 8 →
    exec (.readTariff tag f) s = .next (answered s s 0x88 tag .ok
      [natWord (s.tariff f.toNat).blockLength, natWord (s.tariff f.toNat).blockRate, natWord (s.tariff f.toNat).cap,
        natWord (s.tariff f.toNat).hireLimit, natWord (s.tariff f.toNat).overdueRate, natWord (s.tariff f.toNat).lostGrace,
        natWord (s.tariff f.toNat).deposit, natWord (s.tariff f.toNat).lostFee, natWord (s.tariff f.toNat).minuteRate])) ∧
  (∀ (tag : Tag) (s : State), Ready s → exec (.readClock tag) s =
    .next (answered s s 0x91 tag .ok [natWord s.tau.clock, if s.tau.internal then 1 else 0])) ∧
  -- values out of range
  (∀ (tag : Tag) (n selector : Word) (s : State), Ready s →
    (640 ≤ n.toNat → exec (.readSlot tag n) s = .next (answered s s 0x65 tag .badValue [])) ∧
    (16 ≤ n.toNat → exec (.readRack tag n) s = .next (answered s s 0x66 tag .badValue [])) ∧
    (4 ≤ n.toNat → exec (.readQueue tag n) s = .next (answered s s 0x76 tag .badValue [])) ∧
    (1 < selector.toNat ∨ (selector = 1 ∧ 4096 ≤ n.toNat) →
      exec (.readReceiver tag selector n) s = .next (answered s s 0x7A tag .badValue [])) ∧
    (hallField s.cpi.window n = none → exec (.readListening tag n) s = .next (answered s s 0x7B tag .badValue [])) ∧
    (8 ≤ n.toNat → exec (.readTariff tag n) s = .next (answered s s 0x88 tag .badValue []))) ∧
  -- slots and racks (R112, R115, R130)
  (∀ x : Slot, x.words = [natWord x.state.position, optWord x.occupant, x.presence.word, if x.candidate = none then 0 else 1,
    candidateWord x.candidate, x.latch.word, boolWord x.attention, boolWord x.wake]) ∧
  (∀ (x : Rack) (k : Nat), let words := fun j : Job => [natWord j.kind.position, j.origin.word]
    (x.attempt = none ∨ x.jobs = [] → x.jobWords k = natWord (x.jobs.countP fun j => j.slot == k) ::
      (x.jobs.filter fun j => j.slot == k).flatMap fun j => words j ++ [0]) ∧
    (∀ a j rest, x.attempt = some a → x.jobs = j :: rest → x.jobWords k = natWord (x.jobs.countP fun j => j.slot == k) ::
      ((if j.slot = k then words j ++ [1] else []) ++ (rest.filter fun j => j.slot == k).flatMap fun j => words j ++ [0]))) ∧
  (∀ (x : Rack) (now : Nat), let waiting := if x.attempt = none then x.jobs else x.jobs.drop 1
    x.words now = [if x.desk = none then 1 else 0, optWord x.desk, natWord x.normal, natWord x.night, boolWord x.silent,
      natWord x.missed, natWord (match x.nextScan with
        | .at m => m - now
        | .fallen _ => 0),
      natWord (waiting.countP fun j => j.kind != .identify), natWord (waiting.countP fun j => j.kind == .identify)] ++
      match x.attempt, x.jobs with
      | some a, j :: _ => [natWord j.slot, natWord j.kind.position, natWord a.number, natWord (now - a.began)]
      | _, _ => [noneWord, noneWord, noneWord, noneWord]) ∧
  slotStates = [.disabled, .empty, .settling, .ident, .occupied, .foreign, .issuing, .fault] ∧
  -- receivers (R133, R143, R157)
  (∀ (s : State) (r : Nat), s.queueEntry r = natWord r :: (presenceWords (s.receiver r).serial ++
    [optWord (s.receiver r).slot, natWord (s.receiver r).readyTime])) ∧
  (∀ (s : State) (r : Nat), let x := s.receiver r
    s.receiverAnswer r = presenceWords x.serial ++ [natWord x.state.position, optWord x.slot, optWord x.battery,
        natWord x.readyTime, optWord x.ticket] ++
      (match x.hire with
        | none => List.replicate 8 noneWord
        | some h => [natWord h.account, natWord h.hall, natWord h.language, natWord h.tariff, natWord h.deposit,
            natWord h.issueTime, natWord h.dueTime, optWord h.lossCharge]) ++
      (match x.slot with
        | none => [noneWord, noneWord, noneWord]
        | some k => [natWord (s.slot k).state.position, if (s.rack (rackOf k)).desk = none then 1 else 0,
            optWord (s.rack (rackOf k)).desk]) ++ [optWord (s.queuePosition r)]) ∧
  (∀ (s : State) (r : Nat), ((∀ d < 4, r ∉ s.queue d) → s.queuePosition r = none) ∧
    ∀ d before after, d < 4 → (∀ e < d, r ∉ s.queue e) → s.queue d = before ++ r :: after → r ∉ before →
      s.queuePosition r = some before.length) ∧
  (∀ (s : State) (h l : Nat), (∀ t, 8 ≤ t → s.ticket t = none) → s.openTickets h l =
    (List.range 8).countP fun t => (s.ticket t).any fun x => x.isOpen && x.hall == h && x.language == l)

/-! ## The receiver pool -/

/-- REGISTER_RECEIVER puts a new serial into the lowest FREE record; RETIRE_RECEIVER frees a record that is neither on hire nor docked;
WRITE_OFF ends a LOST hire for good and lowers the account's units held; MARK_FAULTY withdraws a receiver and takes it from its queue;
CLEAR_FAULTY returns it. Each refuses by the state of the record, in the order of its rule. -/
def Obligations.ReceiversAreRegistered : Prop :=
  (∀ (tag : Tag) (serial : Word) (r : Nat) (s : State), Ready s → serial ≠ 0 → s.rpm.bySerial serial = none → r < 4096 →
    (s.receiver r).state = .free → (∀ k < r, (s.receiver k).state ≠ .free) →
    exec (.registerReceiver tag serial) s =
      .next (answered s (s.setReceiver r { serial := some serial, state := .stock, slot := none, battery := none,
                                           readyTime := 0, ticket := none, hire := none }) 0x70 tag .ok [natWord r])) ∧
  (∀ (tag : Tag) (serial : Word) (s : State), Ready s → serial ≠ 0 → s.rpm.bySerial serial ≠ none →
    exec (.registerReceiver tag serial) s = .next (answered s s 0x70 tag .duplicate [])) ∧
  (∀ (tag : Tag) (serial : Word) (r : Nat) (s : State), Ready s → s.rpm.bySerial serial = some r →
    (s.receiver r).state ≠ .issuing → (s.receiver r).state ≠ .issued → (s.receiver r).state ≠ .overdue →
    (s.receiver r).state ≠ .lost → (s.receiver r).slot = none →
    exec (.retireReceiver tag serial) s = .next (answered s (s.setReceiver r Receiver.initial) 0x71 tag .ok [])) ∧
  (∀ (tag : Tag) (serial : Word) (r : Nat) (h : Hire) (s : State), Ready s → s.rpm.bySerial serial = some r →
    (s.receiver r).state = .lost → (s.receiver r).hire = some h →
    exec (.writeOff tag serial) s =
      .next (answered s ((s.setAccount h.account
        { s.account h.account with unitsHeld := (s.account h.account).unitsHeld - 1 }).setReceiver r Receiver.initial)
        0x72 tag .ok [])) ∧
  (∀ (tag : Tag) (serial : Word) (r : Nat) (s : State), Ready s → s.rpm.bySerial serial = some r →
    ((s.receiver r).state = .charging ∨ (s.receiver r).state = .stock ∨ (s.receiver r).state = .loose ∨
      (s.receiver r).state = .faulty) →
    exec (.markFaulty tag serial) s =
      .next (answered s (s.setReceiver r { s.receiver r with state := .faulty }) 0x73 tag .ok [])) ∧
  (∀ (tag : Tag) (serial : Word) (r : Nat) (s : State), Ready s → s.rpm.bySerial serial = some r →
    (s.receiver r).state = .ready → ∃ u,
    exec (.markFaulty tag serial) s = .next (answered s u 0x73 tag .ok []) ∧
      u.receiver r = { s.receiver r with state := .faulty } ∧ (∀ d < 4, u.queue d = (s.queue d).erase r)) ∧
  (∀ (tag : Tag) (serial : Word) (r : Nat) (s : State), Ready s → s.rpm.bySerial serial = some r →
    (s.receiver r).state = .faulty → (s.receiver r).slot = none →
    exec (.clearFaulty tag serial) s =
      .next (answered s (s.setReceiver r { s.receiver r with state := .loose }) 0x74 tag .ok [])) ∧
  (∀ (tag : Tag) (serial : Word) (r k : Nat) (s : State), Ready s → s.rpm.bySerial serial = some r →
    (s.receiver r).state = .faulty → (s.receiver r).slot = some k →
    exec (.clearFaulty tag serial) s =
      .next (answered s ((s.setReceiver r { s.receiver r with state := .charging }).ask k .identify .rpm) 0x74 tag .ok [])) ∧
  -- refusals (R134, R135, R136)
  (∀ (tag : Tag) (s : State), Ready s →
    exec (.registerReceiver tag 0) s = .next (answered s s 0x70 tag .badValue [])) ∧
  (∀ (tag : Tag) (serial : Word) (s : State), Ready s → serial ≠ 0 → s.rpm.bySerial serial = none →
    (∀ r < 4096, (s.receiver r).state ≠ .free) →
    exec (.registerReceiver tag serial) s = .next (answered s s 0x70 tag .full [])) ∧
  (∀ (tag : Tag) (serial : Word) (s : State), Ready s → s.rpm.bySerial serial = none →
    exec (.retireReceiver tag serial) s = .next (answered s s 0x71 tag .noReceiver []) ∧
    exec (.writeOff tag serial) s = .next (answered s s 0x72 tag .noReceiver []) ∧
    exec (.markFaulty tag serial) s = .next (answered s s 0x73 tag .noReceiver []) ∧
    exec (.clearFaulty tag serial) s = .next (answered s s 0x74 tag .noReceiver [])) ∧
  (∀ (tag : Tag) (serial : Word) (r : Nat) (s : State), Ready s → s.rpm.bySerial serial = some r →
    ((s.receiver r).state ∈ [.issuing, .issued, .overdue, .lost] →
      exec (.retireReceiver tag serial) s = .next (answered s s 0x71 tag .openHire [])) ∧
    ((s.receiver r).state ∉ [.issuing, .issued, .overdue, .lost] → (s.receiver r).slot ≠ none →
      exec (.retireReceiver tag serial) s = .next (answered s s 0x71 tag .docked [])) ∧
    ((s.receiver r).state ≠ .lost → exec (.writeOff tag serial) s = .next (answered s s 0x72 tag .badState [])) ∧
    ((s.receiver r).state ∈ [.issued, .overdue, .lost] →
      exec (.markFaulty tag serial) s = .next (answered s s 0x73 tag .openHire [])) ∧
    ((s.receiver r).state = .issuing → exec (.markFaulty tag serial) s = .next (answered s s 0x73 tag .busy [])) ∧
    ((s.receiver r).state ≠ .faulty → exec (.clearFaulty tag serial) s = .next (answered s s 0x74 tag .badState []))) ∧
  -- the serial index (R134)
  (∀ (s : State) (serial : Word) (r : Nat), s.rpm.bySerial serial = some r → (s.receiver r).serial = some serial ∧
    (s.receiver r).state ≠ .free) ∧
  (∀ (s : State) (serial : Word), s.rpm.bySerial serial = none →
    ∀ r, (s.receiver r).serial = some serial → (s.receiver r).state = .free)

/-- An ISSUE that passes every check is ACCEPTED with the lowest free ticket, which is PRESETTING and holds the eligible head of the
desk's queue; the receiver is ISSUING and has left the queue, its slot is ISSUING, and the account's units pending rise by one; its PRESET is
asked for with the ticket's hall, language and label, at step PRESET_WAIT (PRESET_OWED where a PRESET of that slot is in flight, R122). The
refusals come in the order of their checks and change no record. The scan profile is NORMAL after every ISSUE. -/
def Obligations.IssueIsTaken : Prop :=
  (∀ (tag : Tag) (account hall desk language : Word) (q : IssueRequest) (t l r k : Nat) (s : State), Ready s →
    issueRequest s.cpi.window account hall desk language = some q → s.lowestFreeTicket = some t →
    s.issueLanguage q = some l → (s.pls.effectivePlan q.hall).carries l = true → (s.hall q.hall).state = .live →
    s.reserveCheck q.account = none → s.eligibleHead q.desk = some r → (s.receiver r).slot = some k →
    (s.slot k).occupant = some r → ∃ u,
    exec (.issue tag account hall desk language) s = .next u ∧
      u.cpi.held = { result := .accepted, code := 0x77, tag := tag, body := [natWord t] } ∧
      (∃ x, u.ticket t = some x ∧ x.state = .presetting ∧ x.account = q.account ∧ x.hall = q.hall ∧ x.language = l ∧
        x.desk = q.desk ∧ x.tariff = (s.account q.account).tariff ∧ x.receiver = some r ∧ x.attempts = 1 ∧
        x.ending = none ∧ x.timer = 0 ∧
        let twin := (s.rack (rackOf k)).attempt ≠ none ∧
          (s.rack (rackOf k)).jobs.head?.any (fun j => j.slot == k && j.kind == .preset)
        x.step = some (if twin then .presetOwed else .presetWait) ∧
        (¬ twin → ∃ j ∈ (u.rack (rackOf k)).jobs, j.slot = k ∧ j.kind = .preset ∧
          j.preset = some { hall := q.hall, language := l, label := (s.label l).getD [] })) ∧
      (u.receiver r).state = .issuing ∧ (u.receiver r).ticket = some t ∧ (u.slot k).state = .issuing ∧
      (∀ d < 4, u.queue d = (s.queue d).erase r) ∧
      u.account q.account = { s.account q.account with unitsPending := (s.account q.account).unitsPending + 1 } ∧
      u.rks.night = false ∧ u.pls = s.pls ∧ u.fla = s.fla) ∧
  (∀ (tag : Tag) (account hall desk language : Word) (s t : State), Ready s →
    exec (.issue tag account hall desk language) s = .next t → t.rks.night = false) ∧
  -- the refusals in their order (R145)
  (∀ (tag : Tag) (account hall desk language : Word) (s : State), Ready s →
    let refused := fun reason : Result =>
      exec (.issue tag account hall desk language) s = .next (answered s (s.setProfile false) 0x77 tag reason [])
    (issueRequest s.cpi.window account hall desk language = none → refused .badValue) ∧
    ∀ q, issueRequest s.cpi.window account hall desk language = some q →
      ((∀ t < 8, s.ticket t ≠ none) → refused .ticketsFull) ∧
      ((∃ t < 8, s.ticket t = none) →
        (s.issueLanguage q = none → refused .noLanguage) ∧
        ∀ l, s.issueLanguage q = some l →
          ((s.pls.effectivePlan q.hall).carries l = false → refused .notCarried) ∧
          ((s.pls.effectivePlan q.hall).carries l = true → (s.hall q.hall).state ≠ .live → refused .hallNotLive) ∧
          ((s.pls.effectivePlan q.hall).carries l = true → (s.hall q.hall).state = .live →
            (∀ reason, s.reserveCheck q.account = some reason → refused reason) ∧
            (s.reserveCheck q.account = none →
              (∀ r ∈ s.queue q.desk, ∀ k, (s.receiver r).slot = some k → (s.slot k).state ≠ .occupied) → refused .noUnit)))) ∧
  -- what an ISSUE names, the lowest free ticket and the eligible head (R143, R145, R146)
  (∀ (window : Nat) (account hall desk language : Word) (q : IssueRequest),
    issueRequest window account hall desk language = some q ↔
    account.toNat < 512 ∧ q.account = account.toNat ∧ hallField window hall = some q.hall ∧ desk.toNat < 4 ∧
      q.desk = desk.toNat ∧ optBelow 48 language = some q.language) ∧
  (∀ (s : State) (q : IssueRequest), s.issueLanguage q =
    if q.language = none then (s.account q.account).preference else q.language) ∧
  (∀ (s : State) (t : Nat), s.lowestFreeTicket = some t ↔ t < 8 ∧ s.ticket t = none ∧ ∀ i < t, s.ticket i ≠ none) ∧
  (∀ (s : State) (d r : Nat), s.eligibleHead d = some r ↔ ∃ before after, s.queue d = before ++ r :: after ∧
    (∃ k, (s.receiver r).slot = some k ∧ (s.slot k).state = .occupied) ∧
    ∀ b ∈ before, ∀ k, (s.receiver b).slot = some k → (s.slot k).state ≠ .occupied)

/-- CANCEL_TICKET on an open ticket ends it CANCELLED, makes its receiver READY again at the head of its queue, its slot OCCUPIED, withdraws
the waiting PRESET and LATCH_OPEN of its slot and asks for a LATCH_CLOSE, gives its reserve back and raises no TICKET_DONE; a final ticket
refuses it TOO_LATE. READ_TICKET returns a ticket's fields, its receiver's serial and slot, frees a final ticket and leaves an open one.
Both refuse a number above 7 BAD_VALUE. (That the jobs of an earlier ticket on the slot are withdrawn with them is notes/assumptions 45,
the order of the words 8, the words of an absent receiver 28 and 42: the model's choices.) -/
def Obligations.TicketsEnd : Prop :=
  (∀ (tag : Tag) (t : Word) (x : Ticket) (r : Nat) (s : State), Ready s → t.toNat < 8 → s.ticket t.toNat = some x →
    x.isOpen = true → x.receiver = some r → ∃ u,
    exec (.cancelTicket tag t) s = .next u ∧ u.cpi.held = { result := .ok, code := 0x78, tag := tag, body := [] } ∧
      u.ticket t.toNat = some { x with state := .cancelled, ending := some .cancelled, step := none, timer := 0 } ∧
      (u.receiver r).state = .ready ∧ (u.receiver r).ticket = none ∧
      u.account x.account = { s.account x.account with unitsPending := (s.account x.account).unitsPending - 1 } ∧
      u.tau.hasCause .ticketDone = s.tau.hasCause .ticketDone ∧ u.pls = s.pls ∧ u.fla = s.fla) ∧
  -- the head of its queue, its slot, its jobs and its latch (R151)
  (∀ (tag : Tag) (t : Word) (x : Ticket) (r : Nat) (s : State), Ready s → t.toNat < 8 → s.ticket t.toNat = some x →
    x.isOpen = true → x.receiver = some r → ∃ u,
    exec (.cancelTicket tag t) s = .next (answered s u 0x78 tag .ok []) ∧
      (∀ d, u.queue d =
        if (s.receiver r).slot.bind (fun k => (s.rack (rackOf k)).desk) = some d then r :: s.queue d else s.queue d) ∧
      ∀ k, (s.receiver r).slot = some k → (s.slot k).state = .issuing →
        u.slot k = { s.slot k with state := .occupied } ∧
        let y := s.rack (rackOf k)
        let kept := fun j : Job => !(j.slot == k && j.origin == .rpm && (j.kind == .preset || j.kind == .latchOpen))
        u.rack (rackOf k) = (Rack.queueJob
          { y with jobs := if y.attempt = none then y.jobs.filter kept else y.jobs.take 1 ++ (y.jobs.drop 1).filter kept }
          { slot := k, kind := .latchClose, origin := .rpm, preset := none, failed := 0 }).1) ∧
  (∀ (tag : Tag) (t : Word) (x : Ticket) (s : State), Ready s → t.toNat < 8 → s.ticket t.toNat = some x →
    x.isOpen = false → exec (.cancelTicket tag t) s = .next (answered s s 0x78 tag .tooLate [])) ∧
  (∀ (tag : Tag) (t : Word) (s : State), Ready s → t.toNat < 8 → s.ticket t.toNat = none →
    exec (.cancelTicket tag t) s = .next (answered s s 0x78 tag .noTicket []) ∧
    exec (.readTicket tag t) s = .next (answered s s 0x79 tag .noTicket [])) ∧
  (∀ (tag : Tag) (t : Word) (x : Ticket) (s : State), Ready s → t.toNat < 8 → s.ticket t.toNat = some x →
    exec (.readTicket tag t) s =
      .next (answered s (if x.isOpen then s else s.freeTicket t.toNat) 0x79 tag .ok (x.words ++ s.ticketReceiver x))) ∧
  (∀ (tag : Tag) (t : Word) (s : State), Ready s → 8 ≤ t.toNat →
    exec (.cancelTicket tag t) s = .next (answered s s 0x78 tag .badValue []) ∧
    exec (.readTicket tag t) s = .next (answered s s 0x79 tag .badValue [])) ∧
  -- the words of a ticket (R144, R152)
  (∀ x : Ticket, x.words = [natWord x.state.position, natWord x.account, natWord x.hall, natWord x.language, natWord x.desk,
    natWord x.tariff, optWord x.receiver, natWord x.attempts, optWord (x.step.map Machine.Step.position), natWord x.timer,
    optWord (x.ending.map TicketEnding.position)]) ∧
  (∀ (s : State) (x : Ticket), (x.receiver = none → s.ticketReceiver x = [0, 0, noneWord]) ∧
    ∀ r, x.receiver = some r → s.ticketReceiver x = presenceWords (s.receiver r).serial ++ [optWord (s.receiver r).slot])

/-- A departure under an open ticket is its pickup: the ticket is DONE, the receiver ISSUED with its hire filled in, one unit moves from
pending to held with the tariff's deposit, the listening count rises, TICKET_DONE is raised. A return charges the hire, gives the
deposit back, lowers the units held and the listening count, and clears the hire; a late return takes the loss back first and raises
LATE_RETURN; a receiver found in another slot than its own is moved there, its old slot FOREIGN. RL_SCAN_REPLY brings the departure where the
slot settles ABSENT, RL_RESULT_REPLY the identification and the completion that moves a ticket by its steps. A departure that is no pickup
leaves a READY or CHARGING receiver LOOSE, with UNEXPECTED_REMOVAL in a DESK rack, and a FAULTY one FAULTY without a slot. The failure of a job
is the unit failure of the ticket that holds the occupant, which asks for the LATCH_CLOSE it owes and takes the next unit with its PRESET; a
CHARGING or READY occupant becomes FAULTY. The charge of a hire by its blocks. -/
def Obligations.HiresOpenAndClose : Prop :=
  -- pickup (R149)
  (∀ (k r t : Nat) (x : Ticket) (s : State), (s.receiver r).state = .issuing → (s.receiver r).ticket = some t →
    s.ticket t = some x → x.isOpen = true →
    (s.departure k r).ticket t = some { x with state := .done, ending := some .pickedUp, step := none, timer := 0 } ∧
    (s.departure k r).receiver r = { s.receiver r with
      state := .issued, ticket := none, slot := none
      hire := some { account := x.account, hall := x.hall, language := x.language, tariff := x.tariff,
                     deposit := (s.tariff x.tariff).deposit, issueTime := s.tau.clock, lossCharge := none
                     dueTime := dueTime s.tau.clock (s.tariff x.tariff) (s.account x.account).hireEnd } } ∧
    (s.departure k r).account x.account = { s.account x.account with
      unitsPending := (s.account x.account).unitsPending - 1, unitsHeld := (s.account x.account).unitsHeld + 1
      deposit := (s.account x.account).deposit + (s.tariff x.tariff).deposit } ∧
    (s.departure k r).listening x.hall x.language = s.listening x.hall x.language + 1 ∧
    (s.departure k r).tau.hasCause .ticketDone = true) ∧
  (∀ (clock : Nat) (t : Tariff) (e : Nat), dueTime clock t none = min 4294967295 (clock + t.hireLimit * 3600) ∧
    dueTime clock t (some e) = min (min 4294967295 (clock + t.hireLimit * 3600)) e) ∧
  (∀ (rack : Fin 16) (started k r t : Nat) (x : Ticket) (readings : List Bool) (s : State),
    s.rks.line = some (.scan rack started) → readings.length = 40 → rackOf k = rack → (s.rack rack).silent = false →
    (s.slot k).state ≠ .disabled → (s.slot k).occupant = some r →
    ((s.slot k).read (readings.getD (k % 40) false)).2 = some false →
    (∀ i, rackOf i = rack → i ≠ k → (s.slot i).state = .disabled ∨
      ((s.slot i).read (readings.getD (i % 40) false)).2 = none) →
    (s.receiver r).state = .issuing → (s.receiver r).ticket = some t → s.ticket t = some x → x.isOpen = true → ∃ u,
    exec (.rlScanReply rack readings) s = .next (State.settle u) ∧ u.rpm = (s.departure k r).rpm ∧
      u.acu = (s.departure k r).acu ∧ u.tau.hasCause .ticketDone = true ∧
      (u.slot k).state = .empty ∧ (u.slot k).occupant = none) ∧
  -- other departures (R141)
  (∀ (rack : Fin 16) (started k r : Nat) (readings : List Bool) (s : State),
    s.rks.line = some (.scan rack started) → readings.length = 40 → rackOf k = rack → (s.rack rack).silent = false →
    (s.slot k).state ≠ .disabled → (s.slot k).occupant = some r →
    ((s.slot k).read (readings.getD (k % 40) false)).2 = some false →
    (∀ i, rackOf i = rack → i ≠ k → (s.slot i).state = .disabled ∨
      ((s.slot i).read (readings.getD (i % 40) false)).2 = none) → ∃ u,
    exec (.rlScanReply rack readings) s = .next (State.settle u) ∧ u.rpm = (s.departure k r).rpm ∧
      u.acu = (s.departure k r).acu ∧ (u.slot k).state = .empty ∧ (u.slot k).occupant = none ∧
      u.tau.hasCause .unexpectedRemoval = (s.departure k r).tau.hasCause .unexpectedRemoval) ∧
  (∀ (k r : Nat) (s : State),
    ((s.receiver r).state = .charging ∨ (s.receiver r).state = .ready →
      (s.departure k r).receiver r = { s.receiver r with state := .loose, slot := none } ∧
      (∀ q, q ≠ r → (s.departure k r).receiver q = s.receiver q) ∧
      (∀ d < 4, (s.departure k r).queue d =
        if (s.receiver r).state = .ready then (s.queue d).erase r else s.queue d) ∧
      (s.departure k r).tau =
        (if (s.rack (rackOf k)).desk = none then s.tau else s.tau.raise .unexpectedRemoval) ∧
      (s.departure k r).acu = s.acu ∧ (s.departure k r).rks = s.rks) ∧
    ((s.receiver r).state = .faulty → s.departure k r = s.setReceiver r { s.receiver r with slot := none })) ∧
  -- identification (R124, R138)
  (∀ (k : Fin 16) (started fell : Nat) (a : Attempt) (j : Job) (rest : List Job) (serial : Word) (battery : Nat)
    (health : Health) (s : State), s.rks.line = some (.result k started fell) → (s.rack k).attempt = some a →
    (s.rack k).jobs = j :: rest → j.kind = .identify → serial ≠ 0 → battery ≤ 100 →
    let v := { s with rks := { s.rks with line := none } }.setRack k { s.rack k with attempt := none, jobs := rest }
    let c := Instr.rlResultReply k (j.slot % 40) (.doneIdentify serial battery health)
    ((s.slot j.slot).occupant = none → exec c s = .next (State.settle (v.identification j.slot serial battery health))) ∧
    (∀ r, (s.slot j.slot).occupant = some r → (s.receiver r).serial ≠ some serial → exec c s = .next (State.settle
      (((v.setSlot j.slot { s.slot j.slot with occupant := none }).departure j.slot r).identification j.slot serial battery
        health))) ∧
    (∀ r, (s.slot j.slot).occupant = some r → (s.receiver r).serial = some serial → (s.slot j.slot).state ≠ .issuing →
      exec c s = .next (State.settle (v.identification j.slot serial battery health))) ∧
    (∀ r, (s.slot j.slot).occupant = some r → (s.receiver r).serial = some serial → (s.slot j.slot).state = .issuing →
      exec c s = .next (State.settle (v.setReceiver r { s.receiver r with battery := some battery })))) ∧
  (∀ (k r : Nat) (serial : Word) (battery : Nat) (health : Health) (s : State), s.rpm.bySerial serial = some r →
    let v := s.setReceiver r { s.receiver r with battery := some battery }
    let u := s.identification k serial battery health
    (u.slot k).state = .occupied ∧ (u.slot k).occupant = some r ∧
    ((s.slot k).attention = true → (s.slot k).state ≠ .occupied → u.tau.hasCause .slotChange = true) ∧
    ((s.receiver r).slot = none → ((s.receiver r).state = .issued ∨ (s.receiver r).state = .overdue) →
      u.rpm = (v.returned r k battery health).rpm ∧ u.acu = (v.returned r k battery health).acu) ∧
    ((s.receiver r).slot = none → (s.receiver r).state = .lost →
      u.rpm = (v.returnedLate r k battery health).rpm ∧ u.acu = (v.returnedLate r k battery health).acu ∧
      ((s.receiver r).hire ≠ none → u.tau.hasCause .lateReturn = true)) ∧
    (∀ old, (s.receiver r).slot = some old → old ≠ k → (s.receiver r).state = .charging →
      (u.receiver r).slot = some k ∧ (u.slot old).occupant = none ∧ (u.slot old).state = .foreign ∧
      (∀ j ∈ (u.rack (rackOf old)).jobs, j.slot ≠ old) ∧ u.acu = s.acu ∧
      (u.receiver r).state = (match health with
        | .fault => .faulty
        | .ok => if s.rpm.threshold ≤ battery then .ready else .charging)) ∧
    (∀ old, (s.receiver r).slot = some old → old ≠ k → (s.receiver r).state = .ready →
      (u.receiver r).slot = some k ∧ (u.slot old).occupant = none ∧ (u.slot old).state = .foreign ∧ u.acu = s.acu ∧
      (health = .fault → (u.receiver r).state = .faulty ∧ ∀ d < 4, u.queue d = (s.queue d).erase r) ∧
      (health = .ok → (u.receiver r).state = .ready ∧ (u.receiver r).readyTime = s.tau.clock ∧
        ∀ d < 4, u.queue d = (s.queue d).erase r ++ if (s.rack (rackOf k)).desk = some d then [r] else [])) ∧
    (∀ old, (s.receiver r).slot = some old → old ≠ k → (s.receiver r).state = .faulty →
      (u.receiver r).slot = some k ∧ (u.receiver r).state = .faulty ∧ (u.slot old).occupant = none ∧
      (u.slot old).state = .foreign) ∧
    (∀ old t x, (s.receiver r).slot = some old → old ≠ k → (s.receiver r).state = .issuing →
      (s.receiver r).ticket = some t → s.ticket t = some x → x.isOpen = true →
      u.ticket t = some { x with state := .done, ending := some .pickedUp, step := none, timer := 0 } ∧
      (u.receiver r).slot = some k ∧ (u.receiver r).hire = none ∧ (u.receiver r).ticket = none ∧
      (u.slot old).state = .foreign ∧ u.tau.hasCause .ticketDone = true)) ∧
  -- return and late return (R153, R155)
  (∀ (k r battery : Nat) (health : Health) (h : Hire) (s : State), (s.receiver r).hire = some h →
    ((s.returned r k battery health).account h.account = { (s.account h.account).post
        ((s.tariff h.tariff).charge h s.tau.clock : Nat) with
      deposit := (s.account h.account).deposit - h.deposit, unitsHeld := (s.account h.account).unitsHeld - 1 }) ∧
    (s.returned r k battery health).listening h.hall h.language = s.listening h.hall h.language - 1 ∧
    ((s.returned r k battery health).receiver r).hire = none ∧
    ((s.returned r k battery health).receiver r).slot = some k ∧
    (health = .fault → ((s.returned r k battery health).receiver r).state = .faulty) ∧
    (health = .ok → ((s.returned r k battery health).receiver r).state =
      if s.rpm.threshold ≤ battery then .ready else .charging)) ∧
  (∀ (k r battery : Nat) (health : Health) (h : Hire) (s : State), (s.receiver r).hire = some h →
    let u := s.returnedLate r k battery health
    let x := (s.account h.account).post (-(h.lossCharge.getD 0 : Nat) : Int)
    u.account h.account = { x.post ((s.tariff h.tariff).charge h s.tau.clock : Nat) with
      deposit := (s.account h.account).deposit + h.deposit - h.deposit
      unitsHeld := (s.account h.account).unitsHeld - 1 } ∧
    u.listening h.hall h.language = s.listening h.hall h.language ∧ (u.receiver r).hire = none ∧
    (u.receiver r).slot = some k ∧ u.tau.hasCause .lateReturn = true) ∧
  (∀ (t : Tariff) (h : Hire) (clock : Nat), t.charge h clock = min 2000000000
    (min (startedBlocks (min (clock - h.issueTime) (h.dueTime - h.issueTime)) (t.blockLength * 60) * t.blockRate) t.cap +
      startedBlocks ((clock - h.issueTime) - (h.dueTime - h.issueTime)) (t.blockLength * 60) * t.overdueRate)) ∧
  (∀ seconds length n : Nat, 0 < length → (startedBlocks seconds length ≤ n ↔ seconds ≤ n * length)) ∧
  -- ticket steps (R125, R147)
  (∀ (k : Fin 16) (started fell : Nat) (a : Attempt) (j : Job) (rest : List Job) (s : State),
    s.rks.line = some (.result k started fell) → (s.rack k).attempt = some a → (s.rack k).jobs = j :: rest →
    j.kind ≠ .identify → j.origin = .rpm → exec (.rlResultReply k (j.slot % 40) .done) s = .next (State.settle
      (State.completion
        (({ s with rks := { s.rks with line := none } }.setRack k { s.rack k with attempt := none, jobs := rest }).setSlot
          j.slot { s.slot j.slot with latch := match j.kind with
            | .identify => (s.slot j.slot).latch
            | .preset => (s.slot j.slot).latch
            | .latchOpen => .opened
            | .latchClose => .closed })
        j.slot j.kind (s.slot j.slot).occupant))) ∧
  (∀ (k r t : Nat) (x : Ticket) (s : State), (s.receiver r).ticket = some t → s.ticket t = some x → x.state = .presetting →
    (x.step = some .presetWait → s.completion k .preset (some r) = s.askLatchOpen t k) ∧
    (x.step = some .latchWait → s.completion k .latchOpen (some r) =
      s.setTicket t { x with state := .awaitPickup, step := none, timer := s.rpm.pickupTimeout }) ∧
    (x.step = some .presetOwed → s.completion k .preset (some r) = s.askPreset t k) ∧
    (x.step = some .latchOwed → s.completion k .latchOpen (some r) = s.askLatchOpen t k) ∧
    (∀ kind, (kind = .preset → x.step ≠ some .presetWait ∧ x.step ≠ some .presetOwed) →
      (kind = .latchOpen → x.step ≠ some .latchWait ∧ x.step ≠ some .latchOwed) →
      s.completion k kind (some r) = s)) ∧
  (∀ (k t : Nat) (x : Ticket) (s : State), s.ticket t = some x →
    let twin := fun kind : JobKind =>
      (s.rack (rackOf k)).attempt ≠ none ∧ (s.rack (rackOf k)).jobs.head?.any (fun j => j.slot == k && j.kind == kind)
    (s.slot k).state ≠ .disabled → (s.slot k).state ≠ .settling → (s.slot k).state ≠ .empty →
    (s.askLatchOpen t k).ticket t =
      some { x with step := some (if twin .latchOpen then .latchOwed else .latchWait) } ∧
    (s.askPreset t k).ticket t = some { x with step := some (if twin .preset then .presetOwed else .presetWait) } ∧
    (¬ twin .latchOpen → ∃ j ∈ ((s.askLatchOpen t k).rack (rackOf k)).jobs, j.slot = k ∧ j.kind = .latchOpen) ∧
    (¬ twin .preset → ∃ j ∈ ((s.askPreset t k).rack (rackOf k)).jobs, j.slot = k ∧ j.kind = .preset ∧
      j.preset = some { hall := x.hall, language := x.language, label := (s.label x.language).getD [] })) ∧
  -- failures that are no unit failure (R142)
  (∀ (k r : Nat) (s : State), s.failure k none = s ∧
    ((s.receiver r).state = .charging → s.failure k (some r) = s.setReceiver r { s.receiver r with state := .faulty }) ∧
    ((s.receiver r).state = .ready → (s.failure k (some r)).receiver r = { s.receiver r with state := .faulty } ∧
      (∀ q, q ≠ r → (s.failure k (some r)).receiver q = s.receiver q) ∧
      (∀ d < 4, (s.failure k (some r)).queue d = (s.queue d).erase r) ∧ (s.failure k (some r)).acu = s.acu ∧
      (s.failure k (some r)).rks = s.rks ∧ (s.failure k (some r)).tau = s.tau) ∧
    ((s.receiver r).state = .faulty → s.failure k (some r) = s)) ∧
  -- unit failure (R148)
  (∀ (k r t : Nat) (x : Ticket) (s : State), (s.receiver r).state = .issuing → (s.receiver r).ticket = some t →
    s.ticket t = some x → x.isOpen = true →
    let u := s.failure k (some r)
    (∀ n, x.attempts < 3 → s.eligibleHead x.desk = some n → n ≠ r →
      (u.receiver r).state = .faulty ∧ (u.receiver r).ticket = none ∧ (u.receiver r).slot = (s.receiver r).slot ∧
      (∃ y, u.ticket t = some y ∧ y.state = .presetting ∧ y.attempts = x.attempts + 1 ∧ y.receiver = some n ∧ y.timer = 0) ∧
      (u.receiver n).state = .issuing ∧ (u.receiver n).ticket = some t ∧ u.acu = s.acu ∧
      ∀ m, (s.receiver n).slot = some m → (s.slot m).occupant = some n →
        let twin := (s.rack (rackOf m)).attempt ≠ none ∧
          (s.rack (rackOf m)).jobs.head?.any (fun j => j.slot == m && j.kind == .preset)
        (u.slot m).state = .issuing ∧ (u.slot m).occupant = some n ∧ (∀ d < 4, u.queue d = (s.queue d).erase n) ∧
        (∀ y, u.ticket t = some y → y.step = some (if twin then .presetOwed else .presetWait)) ∧
        (¬ twin → ∃ j ∈ (u.rack (rackOf m)).jobs, j.slot = m ∧ j.kind = .preset ∧
          j.preset = some { hall := x.hall, language := x.language, label := (s.label x.language).getD [] })) ∧
    ((x.state = .awaitPickup ∨ x.step = some .latchWait ∨ x.step = some .latchOwed) → (s.slot k).state ≠ .disabled →
      (s.slot k).state ≠ .settling → (s.slot k).state ≠ .empty →
      ∃ j ∈ (u.rack (rackOf k)).jobs, j.slot = k ∧ j.kind = .latchClose) ∧
    (x.state ≠ .awaitPickup → x.step ≠ some .latchWait → x.step ≠ some .latchOwed →
      (3 ≤ x.attempts ∨ s.eligibleHead x.desk = none) → u.rks = s.rks) ∧
    (3 ≤ x.attempts ∨ s.eligibleHead x.desk = none →
      (u.receiver r).state = .faulty ∧ (u.receiver r).ticket = none ∧
      u.ticket t = some { x with
        state := .failed, ending := some (if x.attempts < 3 then .noUnit else .unitFailed), step := none, timer := 0 } ∧
      u.account x.account = { s.account x.account with unitsPending := (s.account x.account).unitsPending - 1 } ∧
      u.tau.hasCause .ticketDone = true))

/-! ## Accounts and tariffs -/

/-- OPEN_ACCOUNT opens a FREE account with the fields given and everything else at its reset value. SET_ACCOUNT replaces the six
settable fields of an OPEN or SUSPENDED account and is refused UNIT_CAP below the units held and pending. A preference for a FREE
language refuses either BAD_LANGUAGE. SUSPEND takes an OPEN account, RESUME a SUSPENDED one, CLOSE one that is either and takes no part in
the installation any more, RETIRE_ACCOUNT a CLOSED and settled one, whose every field returns to its reset value. Each is refused
BAD_STATE in another state, CLOSE with IN_USE and the kind of its first holder, RETIRE_ACCOUNT with UNSETTLED. The values of the settable
fields, as the words that give them, and the checks of a reserve claim in their order. (That the value word of an absent hire end is ignored
is notes/assumptions 44, how the zero bytes of a name tag read 26: the model's choices.) -/
def Obligations.AccountsAreSet : Prop :=
  (∀ (tag : Tag) (account kind n1 n2 tariff credit cap present hireEnd preference : Word) (k : AccountKind)
    (f : AccountSettings) (s : State), Ready s → account.toNat < 512 → kindField kind = some k →
    accountSettings k n1 n2 tariff credit cap present hireEnd preference = some f → (s.account account.toNat).state = .free →
    (∀ l, f.preference = some l → s.label l ≠ none) →
    exec (.openAccount tag account kind n1 n2 tariff credit cap present hireEnd preference) s =
      .next (answered s (s.setAccount account.toNat
        { state := .opened, kind := k, name := some f.name, tariff := f.tariff, creditLimit := f.creditLimit,
          unitCap := f.unitCap, hireEnd := f.hireEnd, preference := f.preference, balance := 0, heldBalance := 0, deposit := 0,
          unitsHeld := 0, unitsPending := 0, liveSeconds := 0, serviceSeconds := 0, heldSeconds := 0, console := none,
          frozen := false }) 0x80 tag .ok [])) ∧
  (∀ (tag : Tag) (account kind n1 n2 tariff credit cap present hireEnd preference : Word) (k : AccountKind)
    (f : AccountSettings) (s : State), Ready s → account.toNat < 512 → kindField kind = some k →
    accountSettings k n1 n2 tariff credit cap present hireEnd preference = some f → (s.account account.toNat).state ≠ .free →
    exec (.openAccount tag account kind n1 n2 tariff credit cap present hireEnd preference) s =
      .next (answered s s 0x80 tag .badState [])) ∧
  (∀ (tag : Tag) (account kind n1 n2 tariff credit cap present hireEnd preference : Word) (k : AccountKind)
    (f : AccountSettings) (l : Nat) (s : State), Ready s → account.toNat < 512 → kindField kind = some k →
    accountSettings k n1 n2 tariff credit cap present hireEnd preference = some f → (s.account account.toNat).state = .free →
    f.preference = some l → s.label l = none →
    exec (.openAccount tag account kind n1 n2 tariff credit cap present hireEnd preference) s =
      .next (answered s s 0x80 tag .badLanguage [])) ∧
  (∀ (tag : Tag) (account n1 n2 tariff credit cap present hireEnd preference : Word) (f : AccountSettings) (s : State),
    Ready s → account.toNat < 512 →
    accountSettings (s.account account.toNat).kind n1 n2 tariff credit cap present hireEnd preference = some f →
    ((s.account account.toNat).state = .opened ∨ (s.account account.toNat).state = .suspended) →
    (∀ l, f.preference = some l → s.label l ≠ none) →
    exec (.setAccount tag account n1 n2 tariff credit cap present hireEnd preference) s =
      .next (if f.unitCap < (s.account account.toNat).unitsHeld + (s.account account.toNat).unitsPending
        then answered s s 0x81 tag .unitCap []
        else answered s (s.setAccount account.toNat { s.account account.toNat with
          name := some f.name, tariff := f.tariff, creditLimit := f.creditLimit, unitCap := f.unitCap, hireEnd := f.hireEnd
          preference := f.preference }) 0x81 tag .ok [])) ∧
  (∀ (tag : Tag) (account n1 n2 tariff credit cap present hireEnd preference : Word) (f : AccountSettings) (s : State),
    Ready s → account.toNat < 512 →
    accountSettings (s.account account.toNat).kind n1 n2 tariff credit cap present hireEnd preference = some f →
    ((s.account account.toNat).state = .free ∨ (s.account account.toNat).state = .closed) →
    exec (.setAccount tag account n1 n2 tariff credit cap present hireEnd preference) s =
      .next (answered s s 0x81 tag .badState [])) ∧
  (∀ (tag : Tag) (account n1 n2 tariff credit cap present hireEnd preference : Word) (f : AccountSettings) (l : Nat)
    (s : State), Ready s → account.toNat < 512 →
    accountSettings (s.account account.toNat).kind n1 n2 tariff credit cap present hireEnd preference = some f →
    ((s.account account.toNat).state = .opened ∨ (s.account account.toNat).state = .suspended) →
    f.preference = some l → s.label l = none →
    exec (.setAccount tag account n1 n2 tariff credit cap present hireEnd preference) s =
      .next (answered s s 0x81 tag .badLanguage [])) ∧
  (∀ (k : AccountKind) (n1 n2 tariff credit cap present hireEnd preference : Word) (f : AccountSettings),
    accountSettings k n1 n2 tariff credit cap present hireEnd preference = some f ↔
    (1 ≤ f.name.length ∧ f.name.length ≤ 8 ∧
      (∀ c ∈ f.name, (65 ≤ c.toNat ∧ c.toNat ≤ 90) ∨ (48 ≤ c.toNat ∧ c.toNat ≤ 57) ∨ c = 45) ∧
      n1 = bytesWord (f.name.getD 0 0) (f.name.getD 1 0) (f.name.getD 2 0) (f.name.getD 3 0) ∧
      n2 = bytesWord (f.name.getD 4 0) (f.name.getD 5 0) (f.name.getD 6 0) (f.name.getD 7 0)) ∧
    f.tariff = tariff.toNat ∧ tariff.toNat < 8 ∧ f.creditLimit = credit.toNat ∧ credit.toNat ≤ 100000000 ∧
    f.unitCap = cap.toNat ∧ cap.toNat ≤ (if k = .delegate then 4 else 64) ∧
    ((present = 0 ∧ f.hireEnd = none) ∨ (present = 1 ∧ f.hireEnd = some hireEnd.toNat)) ∧
    ((preference = 0xFFFFFFFF ∧ f.preference = none) ∨ (preference.toNat < 48 ∧ f.preference = some preference.toNat))) ∧
  (∀ (tag : Tag) (account kind n1 n2 tariff credit cap present hireEnd preference : Word) (s : State), Ready s →
    (511 < account.toNat ∨ kindField kind = none ∨ ∃ k, kindField kind = some k ∧
      accountSettings k n1 n2 tariff credit cap present hireEnd preference = none) →
    exec (.openAccount tag account kind n1 n2 tariff credit cap present hireEnd preference) s =
      .next (answered s s 0x80 tag .badValue [])) ∧
  (∀ (tag : Tag) (account n1 n2 tariff credit cap present hireEnd preference : Word) (s : State), Ready s →
    (511 < account.toNat ∨
      accountSettings (s.account account.toNat).kind n1 n2 tariff credit cap present hireEnd preference = none) →
    exec (.setAccount tag account n1 n2 tariff credit cap present hireEnd preference) s =
      .next (answered s s 0x81 tag .badValue [])) ∧
  (∀ (tag : Tag) (a : Word) (s : State), Ready s → a.toNat < 512 → exec (.suspend tag a) s =
    .next (if (s.account a.toNat).state = .opened
      then answered s (s.setAccount a.toNat { s.account a.toNat with state := .suspended }) 0x82 tag .ok []
      else answered s s 0x82 tag .badState [])) ∧
  (∀ (tag : Tag) (a : Word) (s : State), Ready s → a.toNat < 512 → exec (.resume tag a) s =
    .next (if (s.account a.toNat).state = .suspended
      then answered s (s.setAccount a.toNat { s.account a.toNat with state := .opened }) 0x83 tag .ok []
      else answered s s 0x83 tag .badState [])) ∧
  (∀ (tag : Tag) (a : Word) (s : State), Ready s → a.toNat < 512 →
    exec (.close tag a) s =
      .next (if (s.account a.toNat).state = .free ∨ (s.account a.toNat).state = .closed
          then answered s s 0x84 tag .badState []
        else if 0 < (s.account a.toNat).unitsHeld + (s.account a.toNat).unitsPending
          then answered s s 0x84 tag .inUse [natWord 0]
        else if (s.account a.toNat).console ≠ none then answered s s 0x84 tag .inUse [natWord 1]
        else if (List.range 6).any (fun h => (s.hall h).organiser == some a.toNat)
          then answered s s 0x84 tag .inUse [natWord 2]
        else answered s (s.setAccount a.toNat { s.account a.toNat with state := .closed }) 0x84 tag .ok [])) ∧
  (∀ (tag : Tag) (a : Word) (s : State), Ready s → a.toNat < 512 → exec (.retireAccount tag a) s =
    .next (if (s.account a.toNat).state ≠ .closed then answered s s 0x85 tag .badState []
      else if (s.account a.toNat).balance ≠ 0 ∨ (s.account a.toNat).heldBalance ≠ 0 ∨ (s.account a.toNat).heldSeconds ≠ 0
        then answered s s 0x85 tag .unsettled []
      else answered s (s.setAccount a.toNat Account.initial) 0x85 tag .ok [])) ∧
  (∀ (tag : Tag) (a : Word) (s : State), Ready s → 512 ≤ a.toNat →
    exec (.suspend tag a) s = .next (answered s s 0x82 tag .badValue []) ∧
    exec (.resume tag a) s = .next (answered s s 0x83 tag .badValue []) ∧
    exec (.close tag a) s = .next (answered s s 0x84 tag .badValue []) ∧
    exec (.retireAccount tag a) s = .next (answered s s 0x85 tag .badValue [])) ∧
  (∀ (s : State) (a : Nat), s.reserveCheck a =
    if (s.account a).state ≠ .opened ∨ (s.account a).frozen = true ∨ (s.account a).kind = .interpreter
      then some .accountState
    else if (s.account a).unitCap ≤ (s.account a).unitsHeld + (s.account a).unitsPending then some .unitCap
    else if ((s.account a).creditLimit : Int) < (s.account a).balance + (s.account a).heldBalance +
      (((s.account a).unitsHeld + (s.account a).unitsPending + 1) * (s.tariff (s.account a).tariff).lostFee : Nat)
      then some .credit
    else none)

/-- POST_PAYMENT subtracts its amount from the balance of an account that is neither FREE nor frozen, clipped to the money range, and
returns the new balance; while an account is frozen every posting goes to the held balance. FREEZE sets the flag; THAW folds the held
balance and the held seconds in and clears it. READ_ACCOUNT returns the fields of the account, its exposure, the credit remaining and the
open ticket count; with the clear option it sets the second counters to 0, but of a FREE account; a value out of range is BAD_VALUE. An
amount of 0 or outside the money range is refused BAD_VALUE, then a FREE account BAD_STATE. (The word of a figure of READ_ACCOUNT outside 32
bits is a free value, notes/assumptions 9, the order of the words 8, an absent hire end 42 and an absent name tag 43, the empty body of a
THAW that finds no freeze 25: the model's choices.) -/
def Obligations.BalancesArePosted : Prop :=
  (∀ (tag : Tag) (a amount : Word) (s : State), Ready s → a.toNat < 512 → amount.toInt ≠ 0 → -2000000000 ≤ amount.toInt →
    amount.toInt ≤ 2000000000 → (s.account a.toNat).state ≠ .free → (s.account a.toNat).frozen = false →
    exec (.postPayment tag a amount) s =
      .next (answered s (s.setAccount a.toNat { s.account a.toNat with
        balance := clipMoney ((s.account a.toNat).balance - amount.toInt) }) 0x89 tag .ok
        [moneyWord (clipMoney ((s.account a.toNat).balance - amount.toInt))])) ∧
  (∀ (tag : Tag) (a amount : Word) (s : State), Ready s → a.toNat < 512 → amount.toInt ≠ 0 → -2000000000 ≤ amount.toInt →
    amount.toInt ≤ 2000000000 → (s.account a.toNat).state ≠ .free → (s.account a.toNat).frozen = true →
    exec (.postPayment tag a amount) s = .next (answered s s 0x89 tag .accountState [])) ∧
  (∀ (tag : Tag) (a amount : Word) (s : State), Ready s →
    (512 ≤ a.toNat ∨ amount.toInt = 0 ∨ amount.toInt < -2000000000 ∨ 2000000000 < amount.toInt) →
    exec (.postPayment tag a amount) s = .next (answered s s 0x89 tag .badValue [])) ∧
  (∀ (tag : Tag) (a amount : Word) (s : State), Ready s → a.toNat < 512 → amount.toInt ≠ 0 → -2000000000 ≤ amount.toInt →
    amount.toInt ≤ 2000000000 → (s.account a.toNat).state = .free →
    exec (.postPayment tag a amount) s = .next (answered s s 0x89 tag .badState [])) ∧
  (∀ (tag : Tag) (a : Word) (s : State), Ready s → a.toNat < 512 →
    ((s.account a.toNat).state = .free ∨ (s.account a.toNat).state = .closed →
      exec (.freeze tag a) s = .next (answered s s 0x8A tag .badState [])) ∧
    ((s.account a.toNat).state = .free → exec (.thaw tag a) s = .next (answered s s 0x8B tag .badState [])) ∧
    ((s.account a.toNat).state ≠ .free → (s.account a.toNat).frozen = false →
      exec (.thaw tag a) s = .next (answered s s 0x8B tag .ok []))) ∧
  (∀ (tag : Tag) (a : Word) (s : State), Ready s → 512 ≤ a.toNat →
    exec (.freeze tag a) s = .next (answered s s 0x8A tag .badValue []) ∧
    exec (.thaw tag a) s = .next (answered s s 0x8B tag .badValue [])) ∧
  (∀ x : Int, clipMoney x = if x < -2000000000 then -2000000000 else if 2000000000 < x then 2000000000 else x) ∧
  (∀ (x : Account) (m : Int), x.post m =
    if x.frozen then { x with heldBalance := clipMoney (x.heldBalance + m) }
    else { x with balance := clipMoney (x.balance + m) }) ∧
  (∀ (tag : Tag) (a : Word) (s : State), Ready s → a.toNat < 512 →
    ((s.account a.toNat).state = .opened ∨ (s.account a.toNat).state = .suspended) →
    exec (.freeze tag a) s =
      .next (answered s (s.setAccount a.toNat { s.account a.toNat with frozen := true }) 0x8A tag .ok [])) ∧
  (∀ (tag : Tag) (a : Word) (s : State), Ready s → a.toNat < 512 → (s.account a.toNat).state ≠ .free →
    (s.account a.toNat).frozen = true → ∃ x, exec (.thaw tag a) s =
      .next (answered s (s.setAccount a.toNat x) 0x8B tag .ok [moneyWord x.balance]) ∧
      x.balance = clipMoney ((s.account a.toNat).balance + (s.account a.toNat).heldBalance) ∧ x.heldBalance = 0 ∧
      x.heldSeconds = 0 ∧ x.frozen = false ∧
      x.liveSeconds = (if (s.account a.toNat).kind = .interpreter
        then min 4294967295 ((s.account a.toNat).liveSeconds + (s.account a.toNat).heldSeconds)
        else (s.account a.toNat).liveSeconds) ∧
      x.serviceSeconds = (if (s.account a.toNat).kind = .organiser
        then min 4294967295 ((s.account a.toNat).serviceSeconds + (s.account a.toNat).heldSeconds)
        else (s.account a.toNat).serviceSeconds) ∧
      x = { s.account a.toNat with
        balance := x.balance, heldBalance := 0, heldSeconds := 0, frozen := false, liveSeconds := x.liveSeconds
        serviceSeconds := x.serviceSeconds }) ∧
  (∀ (tag : Tag) (a : Word) (s : State), Ready s → a.toNat < 512 →
    exec (.readAccount tag a 0) s = .next (answered s s 0x86 tag .ok (s.accountAnswer a.toNat))) ∧
  (∀ (tag : Tag) (a : Word) (s : State), Ready s → a.toNat < 512 → (s.account a.toNat).state ≠ .free →
    exec (.readAccount tag a 1) s =
      .next (answered s (s.setAccount a.toNat { s.account a.toNat with liveSeconds := 0, serviceSeconds := 0 }) 0x86 tag .ok
        (s.accountAnswer a.toNat))) ∧
  (∀ (tag : Tag) (a clear : Word) (s : State), Ready s →
    (a.toNat < 512 → (s.account a.toNat).state = .free →
      exec (.readAccount tag a 1) s = .next (answered s s 0x86 tag .ok (s.accountAnswer a.toNat))) ∧
    (512 ≤ a.toNat ∨ 1 < clear.toNat → exec (.readAccount tag a clear) s = .next (answered s s 0x86 tag .badValue []))) ∧
  -- the words of an account, its exposure, credit and open tickets (R159, R166)
  (∀ (s : State) (a : Nat), let x := s.account a
    let exposure : Int := x.balance + x.heldBalance + ((x.unitsHeld + x.unitsPending) * (s.tariff x.tariff).lostFee : Nat)
    s.accountAnswer a = [natWord x.state.position, x.kind.word] ++ nameWords x.name ++
      [natWord x.tariff, natWord x.creditLimit, natWord x.unitCap] ++ presenceWords (x.hireEnd.map natWord) ++
      [optWord x.preference, moneyWord x.balance, moneyWord x.heldBalance, natWord x.deposit, natWord x.unitsHeld,
        natWord x.unitsPending, natWord x.liveSeconds, natWord x.serviceSeconds, natWord x.heldSeconds, optWord x.console,
        boolWord x.frozen, moneyWord exposure, moneyWord (x.creditLimit - exposure), natWord (s.ticketsOf a)]) ∧
  (∀ (s : State) (a : Nat), (∀ t, 8 ≤ t → s.ticket t = none) → s.ticketsOf a =
    (List.range 8).countP fun t => (s.ticket t).any fun x => x.isOpen && x.account == a)

/-! ## Timebase, attention, faults, resets -/

/-- SET_CLOCK and SET_ENABLES take their value and return it; READ_CAUSES returns the cause set and empties it, READ_FAULTS returns the
fault set with the conditions present and removes POWER and FRAME alone. PULSE_ATTN starts a pulse that drives ATTN_N low and shows in
neither the status byte nor the cause set; its end releases the line where nothing else holds it. The line, and the ATTN bit, follow
the enabled causes; the FAULT bit follows the fault set. (That pulses are counted is notes/assumptions 20, that ATTN_PULSE_END with no pulse
does nothing 3: the model's choices.) -/
def Obligations.CausesFaultsAndAttention : Prop :=
  (∀ (tag : Tag) (w : Word) (s : State), Ready s → exec (.setClock tag w) s =
    .next (answered s { s with tau := { s.tau with clock := w.toNat } } 0x90 tag .ok [w])) ∧
  (∀ (tag : Tag) (w : Word) (s : State), Ready s → w.toNat < 131072 → exec (.setEnables tag w) s =
    .next (answered s { s with tau := { s.tau with enables := w.setWidth 17 } } 0x93 tag .ok [w])) ∧
  (∀ (tag : Tag) (w : Word) (s : State), Ready s → 131072 ≤ w.toNat →
    exec (.setEnables tag w) s = .next (answered s s 0x93 tag .badValue [])) ∧
  (∀ (tag : Tag) (s : State), Ready s → exec (.readCauses tag) s =
    .next (answered s { s with tau := { s.tau with causes := 0 } } 0x92 tag .ok
      [s.tau.causes.setWidth 32, s.tau.enables.setWidth 32])) ∧
  (∀ (tag : Tag) (s : State), Ready s → exec (.readFaults tag) s =
    .next (answered s { s with tau := { s.tau with faults := s.tau.faults &&& 0x7E } } 0x95 tag .ok
      [s.tau.faults.setWidth 32, s.conditionSet.setWidth 32])) ∧
  (∀ (s : State) (f : FaultName), s.conditionSet.getLsbD f.position = s.condition f) ∧
  (∀ (tag : Tag) (s : State), Ready s → exec (.pulseAttn tag) s =
    .next (answered s { s with tau := { s.tau with pulses := s.tau.pulses + 1 } } 0x94 tag .ok [])) ∧
  (∀ s : State, exec .attnPulseEnd s =
    .next (State.settle { s with tau := { s.tau with pulses := s.tau.pulses - 1 } })) ∧
  (∀ t : Tau, t.attnLow = true ↔ (∃ c, t.hasCause c = true ∧ t.enables.getLsbD c.position = true) ∨ 0 < t.pulses) ∧
  (∀ (t : Tau) (b : Bool), (t.statusByte b).getLsbD 0 = true ↔
    ∃ c, t.hasCause c = true ∧ t.enables.getLsbD c.position = true) ∧
  (∀ (t : Tau) (b : Bool), ((t.statusByte b).getLsbD 1 = true ↔ t.faults ≠ 0) ∧ (t.statusByte b).getLsbD 2 = b)

/-- RESET with scope LINKS, block by block: the port is in recovery with the cursor closed and the hall window kept; the clock, the tick
source, the watch, the enables and the fault set are kept, the cause set holds RESET_SEEN alone, and POWER and FRAME stay while the condition
faults follow their conditions; the plans, the languages and the hall settings are kept, an operation in flight is abandoned with its report
ABORTED and its marks cleared, after which every hall adopts a map that differs; every destination waits in BULK with its source UNKNOWN; the
booth bus takes its reset content; the floor is empty, every host-set field and relay pick of the booths kept; racks and slots restart, and the
latches that do not read CLOSED are to be closed; open tickets end ABORTED, their receivers READY at the head of their queue and their reserves
given back; every account is kept but for its logged console and those units pending. RESET with scope ALL gives every record its reset
content, an empty fault set and RESET_SEEN alone in the cause set. Another scope is refused BAD_VALUE. (That recovery ends at the timebase's
moment + 2 is notes/assumptions 4, that the commands waiting are kept 6, that the pulses of PULSE_ATTN that run go on over LINKS and end at
ALL 20, that RESET_LINKS carries the scope word 21: the model's choices.) -/
def Obligations.ResetRequestsAreTaken : Prop :=
  (∀ (tag : Tag) (s : State), Ready s → ∃ u, exec (.resetLinks tag 0) s = .next (State.settle u) ∧
    -- the port, the timebase, the waiting commands (R184, R200)
    (u.cpi.recovery = some { code := 0x96, tag := tag, startsWatch := false, ends := s.tau.now + 2 } ∧
      u.cpi.window = s.cpi.window ∧ u.cpi.cursor = none ∧ u.tau = { s.tau with causes := 1 } ∧ u.pending = s.pending) ∧
    (u.settle.tau.hasFault .power = s.tau.hasFault .power ∧ u.settle.tau.hasFault .frame = s.tau.hasFault .frame ∧
      ((∀ d, (s.route d).status = .stuck → d < 224) → (∀ k, (s.rack k).silent = true → k < 16) →
        (∀ f ∈ conditionFaults, u.settle.tau.hasFault f = true ↔ f = .trefLost ∧ s.tau.internal = true) ∧
        (FaultsFollowConditions s → u.settle.tau.causes = 1))) ∧
    -- the Plan Store (R28, R42)
    (u.pls.draft = s.pls.draft ∧ u.pls.active = s.pls.active ∧ u.pls.languages = s.pls.languages ∧
      u.pls.draftVersion = s.pls.draftVersion ∧ u.pls.planVersion = s.pls.planVersion ∧ u.pls.operation = none ∧
      (s.pls.operation = none → u.pls.markCount = s.pls.markCount ∧ u.pls.report = s.pls.report) ∧
      (∀ o, s.pls.operation = some o → u.pls.markCount = 0 ∧ u.pls.report =
        { kind := some o.kind, ending := .aborted, version := o.version, hallsChanged := o.hallsChanged, stuck := o.stuck,
          relayResets := o.relayResets, planCuts := o.planCuts }) ∧
      ∀ h < 6, u.hall h = if s.pls.operation ≠ none ∧ (s.hall h).announced ≠ s.pls.beaconMap h
        then { s.hall h with announced := s.pls.beaconMap h, mapVersion := (s.hall h).mapVersion + 1 } else s.hall h) ∧
    -- the Route Engine (R62)
    ((∀ d < 224, u.route d = { desired := u.desiredSource d, confirmed := none, status := .pending, mark := false,
                               attempts := 0 }) ∧
      u.rte.up = true ∧ u.rte.outstanding = none ∧ u.rte.urgent = [] ∧ u.rte.bulk = List.range 224 ∧
      u.rte.nextTag = s.rte.nextTag ∧ u.rte.timeouts = 0) ∧
    -- the Booth Bus Controller (R85) and the Floor Arbiter (R87, R111)
    (u.bbc = State.reset.bbc ∧
      (∀ a, u.floor a = { mic := .off, switch := .a, login := none, dutyTimer := 0, dutyWarned := false, dutyOver := false,
                          lastOff := none }) ∧
      (∀ b, u.booth b = { s.booth b with
        holder := none, requests := [], deadline := none
        direction := if (s.booth b).snoop = true then .a else (s.booth b).forced }) ∧
      ∀ k, u.token k = { holder := none, waits := [], service := 0 }) ∧
    -- the Rack Scanner (R132)
    ((∀ k < 16, u.rack k = { s.rack k with
        silent := false, missed := 0, nextScan := .fallen s.tau.now, attempt := none, startReady := none
        jobs := ((slotsOf k).filter fun i => (s.slot i).state ≠ .disabled ∧ (s.slot i).latch ≠ .closed).map fun i =>
          { slot := i, kind := .latchClose, origin := .reset, preset := none, failed := 0 } }) ∧
      (∀ i, u.slot i = if (s.slot i).state = .disabled then s.slot i
        else { s.slot i with state := .empty, presence := .unsettled, candidate := none }) ∧
      u.rks.line = none ∧ u.rks.pollCounter = 0 ∧ u.rks.night = s.rks.night ∧ u.rks.pollInterval = s.rks.pollInterval) ∧
    -- the Receiver Pool Manager (R158)
    ((∀ t < 8, u.ticket t = (s.ticket t).map fun x => if x.isOpen = true
        then { x with state := .aborted, ending := some .reset, step := none, timer := 0 } else x) ∧
      (∀ t < 8, ∀ x r, s.ticket t = some x → x.isOpen = true → x.receiver = some r →
        u.receiver r = { s.receiver r with state := .ready, ticket := none }) ∧
      (∀ r, (∀ t < 8, ∀ x, s.ticket t = some x → x.isOpen = true → x.receiver ≠ some r) → u.receiver r = s.receiver r) ∧
      (∀ d, u.queue d = ((List.range 8).reverse.filterMap fun t =>
        ((s.ticket t).filter Ticket.isOpen).bind fun x => x.receiver.filter fun r =>
          ((s.receiver r).slot.bind fun k => (s.rack (rackOf k)).desk) == some d) ++ s.queue d) ∧
      u.rpm.threshold = s.rpm.threshold ∧ u.rpm.pickupTimeout = s.rpm.pickupTimeout ∧ u.rpm.listening = s.rpm.listening) ∧
    -- the Account Unit (R179)
    ((∀ a, u.account a = { s.account a with
        console := none
        unitsPending := (s.account a).unitsPending - (List.range 8).countP fun t =>
          (s.ticket t).any fun x => x.isOpen && x.account == a }) ∧
      u.acu.tariffs = s.acu.tariffs)) ∧
  (∀ (tag : Tag) (scope : Word) (s : State), Ready s → scope ≠ 0 → scope ≠ 1 →
    exec (.resetLinks tag scope) s = .next (answered s s 0x96 tag .badValue [])) ∧
  (∀ (tag : Tag) (s : State), Ready s → ∃ u, exec (.resetAll tag) s = .next (State.settle u) ∧
    u.pls = State.reset.pls ∧ u.rte = State.reset.rte ∧ u.bbc = State.reset.bbc ∧ u.fla = State.reset.fla ∧
    u.rks = State.reset.rks ∧ u.rpm = State.reset.rpm ∧ u.acu = State.reset.acu ∧
    u.tau = { clock := 0, internal := false, watch := none, nextInternal := none, causes := 1, enables := 0, faults := 0,
              pulses := 0, now := s.tau.now } ∧
    u.settle.tau.faults = 0 ∧ u.settle.tau.causes = 1 ∧ u.cpi.window = 0 ∧ u.cpi.cursor = none ∧
    u.cpi.recovery = some { code := 0x96, tag := tag, startsWatch := true, ends := s.tau.now + 2 } ∧ u.pending = s.pending)

end
end

