-- ==== Sys2Proof/Laws/State.lean ====
section
/-! SUPPORT. One lemma per field and update: what a writer leaves as it was, and what settling leaves as it was. -/

namespace Sys2Proof.Machine.State

@[simp] theorem setHall_cpi (s : State) (h : Nat) (x : Hall) : (s.setHall h x).cpi = s.cpi := rfl
@[simp] theorem setHall_rte (s : State) (h : Nat) (x : Hall) : (s.setHall h x).rte = s.rte := rfl
@[simp] theorem setHall_bbc (s : State) (h : Nat) (x : Hall) : (s.setHall h x).bbc = s.bbc := rfl
@[simp] theorem setHall_fla (s : State) (h : Nat) (x : Hall) : (s.setHall h x).fla = s.fla := rfl
@[simp] theorem setHall_rks (s : State) (h : Nat) (x : Hall) : (s.setHall h x).rks = s.rks := rfl
@[simp] theorem setHall_rpm (s : State) (h : Nat) (x : Hall) : (s.setHall h x).rpm = s.rpm := rfl
@[simp] theorem setHall_acu (s : State) (h : Nat) (x : Hall) : (s.setHall h x).acu = s.acu := rfl
@[simp] theorem setHall_tau (s : State) (h : Nat) (x : Hall) : (s.setHall h x).tau = s.tau := rfl
@[simp] theorem setHall_pending (s : State) (h : Nat) (x : Hall) : (s.setHall h x).pending = s.pending := rfl

@[simp] theorem setRoute_cpi (s : State) (d : Nat) (x : Route) : (s.setRoute d x).cpi = s.cpi := rfl
@[simp] theorem setRoute_pls (s : State) (d : Nat) (x : Route) : (s.setRoute d x).pls = s.pls := rfl
@[simp] theorem setRoute_bbc (s : State) (d : Nat) (x : Route) : (s.setRoute d x).bbc = s.bbc := rfl
@[simp] theorem setRoute_fla (s : State) (d : Nat) (x : Route) : (s.setRoute d x).fla = s.fla := rfl
@[simp] theorem setRoute_rks (s : State) (d : Nat) (x : Route) : (s.setRoute d x).rks = s.rks := rfl
@[simp] theorem setRoute_rpm (s : State) (d : Nat) (x : Route) : (s.setRoute d x).rpm = s.rpm := rfl
@[simp] theorem setRoute_acu (s : State) (d : Nat) (x : Route) : (s.setRoute d x).acu = s.acu := rfl
@[simp] theorem setRoute_tau (s : State) (d : Nat) (x : Route) : (s.setRoute d x).tau = s.tau := rfl
@[simp] theorem setRoute_pending (s : State) (d : Nat) (x : Route) : (s.setRoute d x).pending = s.pending := rfl

@[simp] theorem setLink_cpi (s : State) (a : Nat) (x : Link) : (s.setLink a x).cpi = s.cpi := rfl
@[simp] theorem setLink_pls (s : State) (a : Nat) (x : Link) : (s.setLink a x).pls = s.pls := rfl
@[simp] theorem setLink_rte (s : State) (a : Nat) (x : Link) : (s.setLink a x).rte = s.rte := rfl
@[simp] theorem setLink_fla (s : State) (a : Nat) (x : Link) : (s.setLink a x).fla = s.fla := rfl
@[simp] theorem setLink_rks (s : State) (a : Nat) (x : Link) : (s.setLink a x).rks = s.rks := rfl
@[simp] theorem setLink_rpm (s : State) (a : Nat) (x : Link) : (s.setLink a x).rpm = s.rpm := rfl
@[simp] theorem setLink_acu (s : State) (a : Nat) (x : Link) : (s.setLink a x).acu = s.acu := rfl
@[simp] theorem setLink_tau (s : State) (a : Nat) (x : Link) : (s.setLink a x).tau = s.tau := rfl
@[simp] theorem setLink_pending (s : State) (a : Nat) (x : Link) : (s.setLink a x).pending = s.pending := rfl

@[simp] theorem setFloor_cpi (s : State) (a : Nat) (x : FloorRecord) : (s.setFloor a x).cpi = s.cpi := rfl
@[simp] theorem setFloor_pls (s : State) (a : Nat) (x : FloorRecord) : (s.setFloor a x).pls = s.pls := rfl
@[simp] theorem setFloor_rte (s : State) (a : Nat) (x : FloorRecord) : (s.setFloor a x).rte = s.rte := rfl
@[simp] theorem setFloor_bbc (s : State) (a : Nat) (x : FloorRecord) : (s.setFloor a x).bbc = s.bbc := rfl
@[simp] theorem setFloor_rks (s : State) (a : Nat) (x : FloorRecord) : (s.setFloor a x).rks = s.rks := rfl
@[simp] theorem setFloor_rpm (s : State) (a : Nat) (x : FloorRecord) : (s.setFloor a x).rpm = s.rpm := rfl
@[simp] theorem setFloor_acu (s : State) (a : Nat) (x : FloorRecord) : (s.setFloor a x).acu = s.acu := rfl
@[simp] theorem setFloor_tau (s : State) (a : Nat) (x : FloorRecord) : (s.setFloor a x).tau = s.tau := rfl
@[simp] theorem setFloor_pending (s : State) (a : Nat) (x : FloorRecord) : (s.setFloor a x).pending = s.pending := rfl

@[simp] theorem setBooth_cpi (s : State) (b : Nat) (x : BoothFloor) : (s.setBooth b x).cpi = s.cpi := rfl
@[simp] theorem setBooth_pls (s : State) (b : Nat) (x : BoothFloor) : (s.setBooth b x).pls = s.pls := rfl
@[simp] theorem setBooth_rte (s : State) (b : Nat) (x : BoothFloor) : (s.setBooth b x).rte = s.rte := rfl
@[simp] theorem setBooth_bbc (s : State) (b : Nat) (x : BoothFloor) : (s.setBooth b x).bbc = s.bbc := rfl
@[simp] theorem setBooth_rks (s : State) (b : Nat) (x : BoothFloor) : (s.setBooth b x).rks = s.rks := rfl
@[simp] theorem setBooth_rpm (s : State) (b : Nat) (x : BoothFloor) : (s.setBooth b x).rpm = s.rpm := rfl
@[simp] theorem setBooth_acu (s : State) (b : Nat) (x : BoothFloor) : (s.setBooth b x).acu = s.acu := rfl
@[simp] theorem setBooth_tau (s : State) (b : Nat) (x : BoothFloor) : (s.setBooth b x).tau = s.tau := rfl
@[simp] theorem setBooth_pending (s : State) (b : Nat) (x : BoothFloor) : (s.setBooth b x).pending = s.pending := rfl

@[simp] theorem setToken_cpi (s : State) (k : Nat) (x : ChannelToken) : (s.setToken k x).cpi = s.cpi := rfl
@[simp] theorem setToken_pls (s : State) (k : Nat) (x : ChannelToken) : (s.setToken k x).pls = s.pls := rfl
@[simp] theorem setToken_rte (s : State) (k : Nat) (x : ChannelToken) : (s.setToken k x).rte = s.rte := rfl
@[simp] theorem setToken_bbc (s : State) (k : Nat) (x : ChannelToken) : (s.setToken k x).bbc = s.bbc := rfl
@[simp] theorem setToken_rks (s : State) (k : Nat) (x : ChannelToken) : (s.setToken k x).rks = s.rks := rfl
@[simp] theorem setToken_rpm (s : State) (k : Nat) (x : ChannelToken) : (s.setToken k x).rpm = s.rpm := rfl
@[simp] theorem setToken_acu (s : State) (k : Nat) (x : ChannelToken) : (s.setToken k x).acu = s.acu := rfl
@[simp] theorem setToken_tau (s : State) (k : Nat) (x : ChannelToken) : (s.setToken k x).tau = s.tau := rfl
@[simp] theorem setToken_pending (s : State) (k : Nat) (x : ChannelToken) : (s.setToken k x).pending = s.pending := rfl

@[simp] theorem setRack_cpi (s : State) (k : Nat) (x : Rack) : (s.setRack k x).cpi = s.cpi := rfl
@[simp] theorem setRack_pls (s : State) (k : Nat) (x : Rack) : (s.setRack k x).pls = s.pls := rfl
@[simp] theorem setRack_rte (s : State) (k : Nat) (x : Rack) : (s.setRack k x).rte = s.rte := rfl
@[simp] theorem setRack_bbc (s : State) (k : Nat) (x : Rack) : (s.setRack k x).bbc = s.bbc := rfl
@[simp] theorem setRack_fla (s : State) (k : Nat) (x : Rack) : (s.setRack k x).fla = s.fla := rfl
@[simp] theorem setRack_rpm (s : State) (k : Nat) (x : Rack) : (s.setRack k x).rpm = s.rpm := rfl
@[simp] theorem setRack_acu (s : State) (k : Nat) (x : Rack) : (s.setRack k x).acu = s.acu := rfl
@[simp] theorem setRack_tau (s : State) (k : Nat) (x : Rack) : (s.setRack k x).tau = s.tau := rfl
@[simp] theorem setRack_pending (s : State) (k : Nat) (x : Rack) : (s.setRack k x).pending = s.pending := rfl

@[simp] theorem setSlot_cpi (s : State) (k : Nat) (x : Slot) : (s.setSlot k x).cpi = s.cpi := rfl
@[simp] theorem setSlot_pls (s : State) (k : Nat) (x : Slot) : (s.setSlot k x).pls = s.pls := rfl
@[simp] theorem setSlot_rte (s : State) (k : Nat) (x : Slot) : (s.setSlot k x).rte = s.rte := rfl
@[simp] theorem setSlot_bbc (s : State) (k : Nat) (x : Slot) : (s.setSlot k x).bbc = s.bbc := rfl
@[simp] theorem setSlot_fla (s : State) (k : Nat) (x : Slot) : (s.setSlot k x).fla = s.fla := rfl
@[simp] theorem setSlot_rpm (s : State) (k : Nat) (x : Slot) : (s.setSlot k x).rpm = s.rpm := rfl
@[simp] theorem setSlot_acu (s : State) (k : Nat) (x : Slot) : (s.setSlot k x).acu = s.acu := rfl
@[simp] theorem setSlot_tau (s : State) (k : Nat) (x : Slot) : (s.setSlot k x).tau = s.tau := rfl
@[simp] theorem setSlot_pending (s : State) (k : Nat) (x : Slot) : (s.setSlot k x).pending = s.pending := rfl

@[simp] theorem setReceiver_cpi (s : State) (r : Nat) (x : Receiver) : (s.setReceiver r x).cpi = s.cpi := rfl
@[simp] theorem setReceiver_pls (s : State) (r : Nat) (x : Receiver) : (s.setReceiver r x).pls = s.pls := rfl
@[simp] theorem setReceiver_rte (s : State) (r : Nat) (x : Receiver) : (s.setReceiver r x).rte = s.rte := rfl
@[simp] theorem setReceiver_bbc (s : State) (r : Nat) (x : Receiver) : (s.setReceiver r x).bbc = s.bbc := rfl
@[simp] theorem setReceiver_fla (s : State) (r : Nat) (x : Receiver) : (s.setReceiver r x).fla = s.fla := rfl
@[simp] theorem setReceiver_rks (s : State) (r : Nat) (x : Receiver) : (s.setReceiver r x).rks = s.rks := rfl
@[simp] theorem setReceiver_acu (s : State) (r : Nat) (x : Receiver) : (s.setReceiver r x).acu = s.acu := rfl
@[simp] theorem setReceiver_tau (s : State) (r : Nat) (x : Receiver) : (s.setReceiver r x).tau = s.tau := rfl
@[simp] theorem setReceiver_pending (s : State) (r : Nat) (x : Receiver) : (s.setReceiver r x).pending = s.pending := rfl

@[simp] theorem setQueue_cpi (s : State) (d : Nat) (l : List Nat) : (s.setQueue d l).cpi = s.cpi := rfl
@[simp] theorem setQueue_pls (s : State) (d : Nat) (l : List Nat) : (s.setQueue d l).pls = s.pls := rfl
@[simp] theorem setQueue_rte (s : State) (d : Nat) (l : List Nat) : (s.setQueue d l).rte = s.rte := rfl
@[simp] theorem setQueue_bbc (s : State) (d : Nat) (l : List Nat) : (s.setQueue d l).bbc = s.bbc := rfl
@[simp] theorem setQueue_fla (s : State) (d : Nat) (l : List Nat) : (s.setQueue d l).fla = s.fla := rfl
@[simp] theorem setQueue_rks (s : State) (d : Nat) (l : List Nat) : (s.setQueue d l).rks = s.rks := rfl
@[simp] theorem setQueue_acu (s : State) (d : Nat) (l : List Nat) : (s.setQueue d l).acu = s.acu := rfl
@[simp] theorem setQueue_tau (s : State) (d : Nat) (l : List Nat) : (s.setQueue d l).tau = s.tau := rfl
@[simp] theorem setQueue_pending (s : State) (d : Nat) (l : List Nat) : (s.setQueue d l).pending = s.pending := rfl

@[simp] theorem setTicket_cpi (s : State) (t : Nat) (x : Ticket) : (s.setTicket t x).cpi = s.cpi := rfl
@[simp] theorem setTicket_pls (s : State) (t : Nat) (x : Ticket) : (s.setTicket t x).pls = s.pls := rfl
@[simp] theorem setTicket_rte (s : State) (t : Nat) (x : Ticket) : (s.setTicket t x).rte = s.rte := rfl
@[simp] theorem setTicket_bbc (s : State) (t : Nat) (x : Ticket) : (s.setTicket t x).bbc = s.bbc := rfl
@[simp] theorem setTicket_fla (s : State) (t : Nat) (x : Ticket) : (s.setTicket t x).fla = s.fla := rfl
@[simp] theorem setTicket_rks (s : State) (t : Nat) (x : Ticket) : (s.setTicket t x).rks = s.rks := rfl
@[simp] theorem setTicket_acu (s : State) (t : Nat) (x : Ticket) : (s.setTicket t x).acu = s.acu := rfl
@[simp] theorem setTicket_tau (s : State) (t : Nat) (x : Ticket) : (s.setTicket t x).tau = s.tau := rfl
@[simp] theorem setTicket_pending (s : State) (t : Nat) (x : Ticket) : (s.setTicket t x).pending = s.pending := rfl

@[simp] theorem freeTicket_cpi (s : State) (t : Nat) : (s.freeTicket t).cpi = s.cpi := rfl
@[simp] theorem freeTicket_pls (s : State) (t : Nat) : (s.freeTicket t).pls = s.pls := rfl
@[simp] theorem freeTicket_rte (s : State) (t : Nat) : (s.freeTicket t).rte = s.rte := rfl
@[simp] theorem freeTicket_bbc (s : State) (t : Nat) : (s.freeTicket t).bbc = s.bbc := rfl
@[simp] theorem freeTicket_fla (s : State) (t : Nat) : (s.freeTicket t).fla = s.fla := rfl
@[simp] theorem freeTicket_rks (s : State) (t : Nat) : (s.freeTicket t).rks = s.rks := rfl
@[simp] theorem freeTicket_acu (s : State) (t : Nat) : (s.freeTicket t).acu = s.acu := rfl
@[simp] theorem freeTicket_tau (s : State) (t : Nat) : (s.freeTicket t).tau = s.tau := rfl
@[simp] theorem freeTicket_pending (s : State) (t : Nat) : (s.freeTicket t).pending = s.pending := rfl

@[simp] theorem setListening_cpi (s : State) (h l n : Nat) : (s.setListening h l n).cpi = s.cpi := rfl
@[simp] theorem setListening_pls (s : State) (h l n : Nat) : (s.setListening h l n).pls = s.pls := rfl
@[simp] theorem setListening_rte (s : State) (h l n : Nat) : (s.setListening h l n).rte = s.rte := rfl
@[simp] theorem setListening_bbc (s : State) (h l n : Nat) : (s.setListening h l n).bbc = s.bbc := rfl
@[simp] theorem setListening_fla (s : State) (h l n : Nat) : (s.setListening h l n).fla = s.fla := rfl
@[simp] theorem setListening_rks (s : State) (h l n : Nat) : (s.setListening h l n).rks = s.rks := rfl
@[simp] theorem setListening_acu (s : State) (h l n : Nat) : (s.setListening h l n).acu = s.acu := rfl
@[simp] theorem setListening_tau (s : State) (h l n : Nat) : (s.setListening h l n).tau = s.tau := rfl
@[simp] theorem setListening_pending (s : State) (h l n : Nat) : (s.setListening h l n).pending = s.pending := rfl

@[simp] theorem setAccount_cpi (s : State) (a : Nat) (x : Account) : (s.setAccount a x).cpi = s.cpi := rfl
@[simp] theorem setAccount_pls (s : State) (a : Nat) (x : Account) : (s.setAccount a x).pls = s.pls := rfl
@[simp] theorem setAccount_rte (s : State) (a : Nat) (x : Account) : (s.setAccount a x).rte = s.rte := rfl
@[simp] theorem setAccount_bbc (s : State) (a : Nat) (x : Account) : (s.setAccount a x).bbc = s.bbc := rfl
@[simp] theorem setAccount_fla (s : State) (a : Nat) (x : Account) : (s.setAccount a x).fla = s.fla := rfl
@[simp] theorem setAccount_rks (s : State) (a : Nat) (x : Account) : (s.setAccount a x).rks = s.rks := rfl
@[simp] theorem setAccount_rpm (s : State) (a : Nat) (x : Account) : (s.setAccount a x).rpm = s.rpm := rfl
@[simp] theorem setAccount_tau (s : State) (a : Nat) (x : Account) : (s.setAccount a x).tau = s.tau := rfl
@[simp] theorem setAccount_pending (s : State) (a : Nat) (x : Account) : (s.setAccount a x).pending = s.pending := rfl

@[simp] theorem setTariff_cpi (s : State) (t : Nat) (x : Tariff) : (s.setTariff t x).cpi = s.cpi := rfl
@[simp] theorem setTariff_pls (s : State) (t : Nat) (x : Tariff) : (s.setTariff t x).pls = s.pls := rfl
@[simp] theorem setTariff_rte (s : State) (t : Nat) (x : Tariff) : (s.setTariff t x).rte = s.rte := rfl
@[simp] theorem setTariff_bbc (s : State) (t : Nat) (x : Tariff) : (s.setTariff t x).bbc = s.bbc := rfl
@[simp] theorem setTariff_fla (s : State) (t : Nat) (x : Tariff) : (s.setTariff t x).fla = s.fla := rfl
@[simp] theorem setTariff_rks (s : State) (t : Nat) (x : Tariff) : (s.setTariff t x).rks = s.rks := rfl
@[simp] theorem setTariff_rpm (s : State) (t : Nat) (x : Tariff) : (s.setTariff t x).rpm = s.rpm := rfl
@[simp] theorem setTariff_tau (s : State) (t : Nat) (x : Tariff) : (s.setTariff t x).tau = s.tau := rfl
@[simp] theorem setTariff_pending (s : State) (t : Nat) (x : Tariff) : (s.setTariff t x).pending = s.pending := rfl

@[simp] theorem raise_cpi (s : State) (c : Cause) : (s.raise c).cpi = s.cpi := rfl
@[simp] theorem raise_pls (s : State) (c : Cause) : (s.raise c).pls = s.pls := rfl
@[simp] theorem raise_rte (s : State) (c : Cause) : (s.raise c).rte = s.rte := rfl
@[simp] theorem raise_bbc (s : State) (c : Cause) : (s.raise c).bbc = s.bbc := rfl
@[simp] theorem raise_fla (s : State) (c : Cause) : (s.raise c).fla = s.fla := rfl
@[simp] theorem raise_rks (s : State) (c : Cause) : (s.raise c).rks = s.rks := rfl
@[simp] theorem raise_rpm (s : State) (c : Cause) : (s.raise c).rpm = s.rpm := rfl
@[simp] theorem raise_acu (s : State) (c : Cause) : (s.raise c).acu = s.acu := rfl
@[simp] theorem raise_pending (s : State) (c : Cause) : (s.raise c).pending = s.pending := rfl

@[simp] theorem reach_cpi (s : State) (m : Nat) : (s.reach m).cpi = s.cpi := rfl
@[simp] theorem reach_pls (s : State) (m : Nat) : (s.reach m).pls = s.pls := rfl
@[simp] theorem reach_rte (s : State) (m : Nat) : (s.reach m).rte = s.rte := rfl
@[simp] theorem reach_bbc (s : State) (m : Nat) : (s.reach m).bbc = s.bbc := rfl
@[simp] theorem reach_fla (s : State) (m : Nat) : (s.reach m).fla = s.fla := rfl
@[simp] theorem reach_rks (s : State) (m : Nat) : (s.reach m).rks = s.rks := rfl
@[simp] theorem reach_rpm (s : State) (m : Nat) : (s.reach m).rpm = s.rpm := rfl
@[simp] theorem reach_acu (s : State) (m : Nat) : (s.reach m).acu = s.acu := rfl
@[simp] theorem reach_pending (s : State) (m : Nat) : (s.reach m).pending = s.pending := rfl

@[simp] theorem hold_pls (s : State) (r : Response) : (s.hold r).pls = s.pls := rfl
@[simp] theorem hold_rte (s : State) (r : Response) : (s.hold r).rte = s.rte := rfl
@[simp] theorem hold_bbc (s : State) (r : Response) : (s.hold r).bbc = s.bbc := rfl
@[simp] theorem hold_fla (s : State) (r : Response) : (s.hold r).fla = s.fla := rfl
@[simp] theorem hold_rks (s : State) (r : Response) : (s.hold r).rks = s.rks := rfl
@[simp] theorem hold_rpm (s : State) (r : Response) : (s.hold r).rpm = s.rpm := rfl
@[simp] theorem hold_acu (s : State) (r : Response) : (s.hold r).acu = s.acu := rfl
@[simp] theorem hold_tau (s : State) (r : Response) : (s.hold r).tau = s.tau := rfl
@[simp] theorem hold_pending (s : State) (r : Response) : (s.hold r).pending = s.pending := rfl

@[simp] theorem notReady_pls (s : State) : (s.notReady).pls = s.pls := rfl
@[simp] theorem notReady_rte (s : State) : (s.notReady).rte = s.rte := rfl
@[simp] theorem notReady_bbc (s : State) : (s.notReady).bbc = s.bbc := rfl
@[simp] theorem notReady_fla (s : State) : (s.notReady).fla = s.fla := rfl
@[simp] theorem notReady_rks (s : State) : (s.notReady).rks = s.rks := rfl
@[simp] theorem notReady_rpm (s : State) : (s.notReady).rpm = s.rpm := rfl
@[simp] theorem notReady_acu (s : State) : (s.notReady).acu = s.acu := rfl
@[simp] theorem notReady_tau (s : State) : (s.notReady).tau = s.tau := rfl
@[simp] theorem notReady_pending (s : State) : (s.notReady).pending = s.pending := rfl

@[simp] theorem deliver_pls (s : State) : (s.deliver).pls = s.pls := rfl
@[simp] theorem deliver_rte (s : State) : (s.deliver).rte = s.rte := rfl
@[simp] theorem deliver_bbc (s : State) : (s.deliver).bbc = s.bbc := rfl
@[simp] theorem deliver_fla (s : State) : (s.deliver).fla = s.fla := rfl
@[simp] theorem deliver_rks (s : State) : (s.deliver).rks = s.rks := rfl
@[simp] theorem deliver_rpm (s : State) : (s.deliver).rpm = s.rpm := rfl
@[simp] theorem deliver_acu (s : State) : (s.deliver).acu = s.acu := rfl
@[simp] theorem deliver_tau (s : State) : (s.deliver).tau = s.tau := rfl
@[simp] theorem deliver_pending (s : State) : (s.deliver).pending = s.pending := rfl

@[simp] theorem onSegment_cpi (s : State) (g : Nat) (f : Segment → Segment) : (s.onSegment g f).cpi = s.cpi := rfl
@[simp] theorem onSegment_pls (s : State) (g : Nat) (f : Segment → Segment) : (s.onSegment g f).pls = s.pls := rfl
@[simp] theorem onSegment_rte (s : State) (g : Nat) (f : Segment → Segment) : (s.onSegment g f).rte = s.rte := rfl
@[simp] theorem onSegment_fla (s : State) (g : Nat) (f : Segment → Segment) : (s.onSegment g f).fla = s.fla := rfl
@[simp] theorem onSegment_rks (s : State) (g : Nat) (f : Segment → Segment) : (s.onSegment g f).rks = s.rks := rfl
@[simp] theorem onSegment_rpm (s : State) (g : Nat) (f : Segment → Segment) : (s.onSegment g f).rpm = s.rpm := rfl
@[simp] theorem onSegment_acu (s : State) (g : Nat) (f : Segment → Segment) : (s.onSegment g f).acu = s.acu := rfl
@[simp] theorem onSegment_tau (s : State) (g : Nat) (f : Segment → Segment) : (s.onSegment g f).tau = s.tau := rfl
@[simp] theorem onSegment_pending (s : State) (g : Nat) (f : Segment → Segment) : (s.onSegment g f).pending = s.pending := rfl

@[simp] theorem onLink_cpi (s : State) (a : Nat) (f : Link → Link) : (s.onLink a f).cpi = s.cpi := rfl
@[simp] theorem onLink_pls (s : State) (a : Nat) (f : Link → Link) : (s.onLink a f).pls = s.pls := rfl
@[simp] theorem onLink_rte (s : State) (a : Nat) (f : Link → Link) : (s.onLink a f).rte = s.rte := rfl
@[simp] theorem onLink_fla (s : State) (a : Nat) (f : Link → Link) : (s.onLink a f).fla = s.fla := rfl
@[simp] theorem onLink_rks (s : State) (a : Nat) (f : Link → Link) : (s.onLink a f).rks = s.rks := rfl
@[simp] theorem onLink_rpm (s : State) (a : Nat) (f : Link → Link) : (s.onLink a f).rpm = s.rpm := rfl
@[simp] theorem onLink_acu (s : State) (a : Nat) (f : Link → Link) : (s.onLink a f).acu = s.acu := rfl
@[simp] theorem onLink_tau (s : State) (a : Nat) (f : Link → Link) : (s.onLink a f).tau = s.tau := rfl
@[simp] theorem onLink_pending (s : State) (a : Nat) (f : Link → Link) : (s.onLink a f).pending = s.pending := rfl

@[simp] theorem direct_cpi (s : State) (a : Nat) (d : Directive) : (s.direct a d).cpi = s.cpi := rfl
@[simp] theorem direct_pls (s : State) (a : Nat) (d : Directive) : (s.direct a d).pls = s.pls := rfl
@[simp] theorem direct_rte (s : State) (a : Nat) (d : Directive) : (s.direct a d).rte = s.rte := rfl
@[simp] theorem direct_fla (s : State) (a : Nat) (d : Directive) : (s.direct a d).fla = s.fla := rfl
@[simp] theorem direct_rks (s : State) (a : Nat) (d : Directive) : (s.direct a d).rks = s.rks := rfl
@[simp] theorem direct_rpm (s : State) (a : Nat) (d : Directive) : (s.direct a d).rpm = s.rpm := rfl
@[simp] theorem direct_acu (s : State) (a : Nat) (d : Directive) : (s.direct a d).acu = s.acu := rfl
@[simp] theorem direct_tau (s : State) (a : Nat) (d : Directive) : (s.direct a d).tau = s.tau := rfl
@[simp] theorem direct_pending (s : State) (a : Nat) (d : Directive) : (s.direct a d).pending = s.pending := rfl

@[simp] theorem onBooth_cpi (s : State) (b : Nat) (f : BoothFloor → BoothFloor) : (s.onBooth b f).cpi = s.cpi := rfl
@[simp] theorem onBooth_pls (s : State) (b : Nat) (f : BoothFloor → BoothFloor) : (s.onBooth b f).pls = s.pls := rfl
@[simp] theorem onBooth_rte (s : State) (b : Nat) (f : BoothFloor → BoothFloor) : (s.onBooth b f).rte = s.rte := rfl
@[simp] theorem onBooth_bbc (s : State) (b : Nat) (f : BoothFloor → BoothFloor) : (s.onBooth b f).bbc = s.bbc := rfl
@[simp] theorem onBooth_rks (s : State) (b : Nat) (f : BoothFloor → BoothFloor) : (s.onBooth b f).rks = s.rks := rfl
@[simp] theorem onBooth_rpm (s : State) (b : Nat) (f : BoothFloor → BoothFloor) : (s.onBooth b f).rpm = s.rpm := rfl
@[simp] theorem onBooth_acu (s : State) (b : Nat) (f : BoothFloor → BoothFloor) : (s.onBooth b f).acu = s.acu := rfl
@[simp] theorem onBooth_tau (s : State) (b : Nat) (f : BoothFloor → BoothFloor) : (s.onBooth b f).tau = s.tau := rfl
@[simp] theorem onBooth_pending (s : State) (b : Nat) (f : BoothFloor → BoothFloor) : (s.onBooth b f).pending = s.pending := rfl

@[simp] theorem onReceiver_cpi (s : State) (r : Nat) (f : Receiver → Receiver) : (s.onReceiver r f).cpi = s.cpi := rfl
@[simp] theorem onReceiver_pls (s : State) (r : Nat) (f : Receiver → Receiver) : (s.onReceiver r f).pls = s.pls := rfl
@[simp] theorem onReceiver_rte (s : State) (r : Nat) (f : Receiver → Receiver) : (s.onReceiver r f).rte = s.rte := rfl
@[simp] theorem onReceiver_bbc (s : State) (r : Nat) (f : Receiver → Receiver) : (s.onReceiver r f).bbc = s.bbc := rfl
@[simp] theorem onReceiver_fla (s : State) (r : Nat) (f : Receiver → Receiver) : (s.onReceiver r f).fla = s.fla := rfl
@[simp] theorem onReceiver_rks (s : State) (r : Nat) (f : Receiver → Receiver) : (s.onReceiver r f).rks = s.rks := rfl
@[simp] theorem onReceiver_acu (s : State) (r : Nat) (f : Receiver → Receiver) : (s.onReceiver r f).acu = s.acu := rfl
@[simp] theorem onReceiver_tau (s : State) (r : Nat) (f : Receiver → Receiver) : (s.onReceiver r f).tau = s.tau := rfl
@[simp] theorem onReceiver_pending (s : State) (r : Nat) (f : Receiver → Receiver) : (s.onReceiver r f).pending = s.pending := rfl

@[simp] theorem onAccount_cpi (s : State) (a : Nat) (f : Account → Account) : (s.onAccount a f).cpi = s.cpi := rfl
@[simp] theorem onAccount_pls (s : State) (a : Nat) (f : Account → Account) : (s.onAccount a f).pls = s.pls := rfl
@[simp] theorem onAccount_rte (s : State) (a : Nat) (f : Account → Account) : (s.onAccount a f).rte = s.rte := rfl
@[simp] theorem onAccount_bbc (s : State) (a : Nat) (f : Account → Account) : (s.onAccount a f).bbc = s.bbc := rfl
@[simp] theorem onAccount_fla (s : State) (a : Nat) (f : Account → Account) : (s.onAccount a f).fla = s.fla := rfl
@[simp] theorem onAccount_rks (s : State) (a : Nat) (f : Account → Account) : (s.onAccount a f).rks = s.rks := rfl
@[simp] theorem onAccount_rpm (s : State) (a : Nat) (f : Account → Account) : (s.onAccount a f).rpm = s.rpm := rfl
@[simp] theorem onAccount_tau (s : State) (a : Nat) (f : Account → Account) : (s.onAccount a f).tau = s.tau := rfl
@[simp] theorem onAccount_pending (s : State) (a : Nat) (f : Account → Account) : (s.onAccount a f).pending = s.pending := rfl

@[simp] theorem freeLine_cpi (s : State) : (s.freeLine).cpi = s.cpi := rfl
@[simp] theorem freeLine_pls (s : State) : (s.freeLine).pls = s.pls := rfl
@[simp] theorem freeLine_rte (s : State) : (s.freeLine).rte = s.rte := rfl
@[simp] theorem freeLine_bbc (s : State) : (s.freeLine).bbc = s.bbc := rfl
@[simp] theorem freeLine_fla (s : State) : (s.freeLine).fla = s.fla := rfl
@[simp] theorem freeLine_rpm (s : State) : (s.freeLine).rpm = s.rpm := rfl
@[simp] theorem freeLine_acu (s : State) : (s.freeLine).acu = s.acu := rfl
@[simp] theorem freeLine_tau (s : State) : (s.freeLine).tau = s.tau := rfl
@[simp] theorem freeLine_pending (s : State) : (s.freeLine).pending = s.pending := rfl

@[simp] theorem settle_cpi (s : State) : s.settle.cpi = s.cpi := rfl
@[simp] theorem settle_pls (s : State) : s.settle.pls = s.pls := rfl
@[simp] theorem settle_fla (s : State) : s.settle.fla = s.fla := rfl
@[simp] theorem settle_rpm (s : State) : s.settle.rpm = s.rpm := rfl
@[simp] theorem settle_acu (s : State) : s.settle.acu = s.acu := rfl
@[simp] theorem settle_pending (s : State) : s.settle.pending = s.pending := rfl
theorem settle_rte (s : State) : s.settle.rte = s.rte.pump s.tau.now := rfl
theorem settle_bbc (s : State) : s.settle.bbc = if s.cpi.recovery.isSome then s.bbc else s.bbc.pump s.tau.now := rfl
theorem settle_rks (s : State) : s.settle.rks = if s.cpi.recovery.isSome then s.rks else s.rks.pump s.tau.now := rfl

/-! ## Causes: raising one changes the cause set alone -/

@[simp] theorem raise_tau_clock (s : State) (c : Cause) : (s.raise c).tau.clock = s.tau.clock := rfl
@[simp] theorem raise_tau_internal (s : State) (c : Cause) : (s.raise c).tau.internal = s.tau.internal := rfl
@[simp] theorem raise_tau_watch (s : State) (c : Cause) : (s.raise c).tau.watch = s.tau.watch := rfl
@[simp] theorem raise_tau_nextInternal (s : State) (c : Cause) : (s.raise c).tau.nextInternal = s.tau.nextInternal := rfl
@[simp] theorem raise_tau_enables (s : State) (c : Cause) : (s.raise c).tau.enables = s.tau.enables := rfl
@[simp] theorem raise_tau_faults (s : State) (c : Cause) : (s.raise c).tau.faults = s.tau.faults := rfl
@[simp] theorem raise_tau_pulses (s : State) (c : Cause) : (s.raise c).tau.pulses = s.tau.pulses := rfl
@[simp] theorem raise_tau_now (s : State) (c : Cause) : (s.raise c).tau.now = s.tau.now := rfl

end Sys2Proof.Machine.State
end

