-- ==== Sys2Proof/Laws/Table.lean ====
section
/-! SUPPORT. What a table answers after it was written: the record at the index written, every other record as it was. -/

namespace Sys2Proof.Machine.Table

variable {α : Type}

theorem mem_of_lookupCells {k : Nat} {v : α} {l : List (Nat × α)} (h : lookupCells k l = some v) : (k, v) ∈ l := by
  induction l with
  | nil => cases h
  | cons p rest ih =>
    unfold lookupCells at h
    split at h
    · rename_i e; cases h; subst e; exact List.mem_cons_self
    · exact List.mem_cons_of_mem _ (ih h)

/-- What holds of the default record and of every listed one holds of every record. -/
theorem get_all {t : Table α} {d : α} {P : Nat → α → Prop} (hd : ∀ k, P k d) (hl : ∀ p ∈ t.cells, P p.1 p.2) (k : Nat) :
    P k (t.get d k) := by
  unfold get
  cases h : t.lookup k with
  | none => exact hd k
  | some v => exact hl (k, v) (mem_of_lookupCells h)

theorem lookupCells_none_of_risesFrom {b : Nat} {l : List (Nat × α)} (h : risesFrom (some b) l = true) :
    ∀ k, k ≤ b → lookupCells k l = none := by
  induction l generalizing b with
  | nil => intro k _; rfl
  | cons p rest ih =>
    obtain ⟨j, w⟩ := p
    intro k hk
    simp only [risesFrom, Bool.and_eq_true, decide_eq_true_eq] at h
    unfold lookupCells
    rw [if_neg (by omega)]
    exact ih h.2 k (by omega)

theorem rest_rises {b : Option Nat} {j : Nat} {w : α} {rest : List (Nat × α)} (h : risesFrom b ((j, w) :: rest) = true) :
    risesFrom (some j) rest = true := by
  cases b with
  | none => exact h
  | some x => simp only [risesFrom, Bool.and_eq_true] at h; exact h.2

theorem lookupCells_insertCells (k j : Nat) (v : α) (l : List (Nat × α)) :
    ∀ b : Option Nat, risesFrom b l = true →
      lookupCells j (insertCells k v l) = if j = k then some v else lookupCells j l := by
  induction l with
  | nil => intro b _; simp only [insertCells, lookupCells]
  | cons p rest ih =>
    obtain ⟨i, w⟩ := p
    intro b h
    have hr := rest_rises h
    unfold insertCells
    split
    · rfl
    · split
      · subst_vars
        simp only [lookupCells]
        split <;> rfl
      · simp only [lookupCells, ih _ hr]
        split
        · subst_vars
          rw [if_neg (by omega)]
        · rfl

theorem lookupCells_eraseCells (k j : Nat) (l : List (Nat × α)) :
    ∀ b : Option Nat, risesFrom b l = true →
      lookupCells j (eraseCells k l) = if j = k then none else lookupCells j l := by
  induction l with
  | nil => intro b _; simp [eraseCells, lookupCells]
  | cons p rest ih =>
    obtain ⟨i, w⟩ := p
    intro b h
    have hr := rest_rises h
    unfold eraseCells
    split
    · subst_vars
      split
      · subst_vars
        exact lookupCells_none_of_risesFrom hr _ (Nat.le_refl _)
      · simp only [lookupCells]
        rw [if_neg (by assumption)]
    · simp only [lookupCells, ih _ hr]
      split
      · subst_vars
        rw [if_neg (by omega)]
      · rfl

@[simp] theorem lookup_empty (k : Nat) : (empty : Table α).lookup k = none := rfl

@[simp] theorem get_empty (d : α) (k : Nat) : (empty : Table α).get d k = d := rfl

theorem lookup_insert (t : Table α) (k j : Nat) (v : α) : (t.insert k v).lookup j = if j = k then some v else t.lookup j :=
  lookupCells_insertCells k j v t.cells none t.rising

theorem lookup_erase (t : Table α) (k j : Nat) : (t.erase k).lookup j = if j = k then none else t.lookup j :=
  lookupCells_eraseCells k j t.cells none t.rising

@[simp] theorem lookup_insert_self (t : Table α) (k : Nat) (v : α) : (t.insert k v).lookup k = some v := by
  rw [lookup_insert, if_pos rfl]

theorem lookup_insert_other (t : Table α) {k j : Nat} (v : α) (h : j ≠ k) : (t.insert k v).lookup j = t.lookup j := by
  rw [lookup_insert, if_neg h]

@[simp] theorem lookup_erase_self (t : Table α) (k : Nat) : (t.erase k).lookup k = none := by
  rw [lookup_erase, if_pos rfl]

theorem lookup_ne_none_of_mem {t : Table α} {p : Nat × α} (hp : p ∈ t.cells) : t.lookup p.1 ≠ none := by
  have : ∀ l : List (Nat × α), p ∈ l → lookupCells p.1 l ≠ none := by
    intro l
    induction l with
    | nil => intro h; cases h
    | cons q rest ih =>
      intro h
      unfold lookupCells
      split
      · simp
      · rename_i hne
        rcases List.mem_cons.mp h with rfl | h
        · exact absurd rfl hne
        · exact ih h
  exact this _ hp

theorem countP_lookupCells (f : α → Bool) (n : Nat) : ∀ (l : List (Nat × α)) (s : Nat) (b : Option Nat),
    risesFrom b l = true → (∀ x, b = some x → x < s) → (∀ p ∈ l, s ≤ p.1 ∧ p.1 < s + n) →
    l.countP (fun p => f p.2) = (List.range' s n).countP fun k => (lookupCells k l).any f := by
  induction n with
  | zero =>
    intro l s b _ _ hl
    cases l with
    | nil => rfl
    | cons p rest => have := hl p List.mem_cons_self; omega
  | succ n ih =>
    intro l s b hr hb hl
    cases l with
    | nil => simp [lookupCells]
    | cons p rest =>
      obtain ⟨j, w⟩ := p
      have hrest := rest_rises hr
      have hj := hl (j, w) List.mem_cons_self
      have above : ∀ p ∈ rest, j < p.1 := by
        clear ih hl hr hb hj
        induction rest generalizing j with
        | nil => simp
        | cons q rest ih =>
          obtain ⟨i, v⟩ := q
          simp only [risesFrom, Bool.and_eq_true, decide_eq_true_eq] at hrest
          intro p hp
          rcases List.mem_cons.mp hp with rfl | hp
          · exact hrest.1
          · exact Nat.lt_trans hrest.1 (ih i hrest.2 p hp)
      rw [List.range'_succ, List.countP_cons (l := List.range' (s + 1) n)]
      by_cases e : s = j
      · subst e
        have hs : lookupCells s ((s, w) :: rest) = some w := by simp [lookupCells]
        rw [List.countP_cons, ih rest (s + 1) (some s) hrest (by intro x hx; cases hx; omega)
          (fun p hp => ⟨above p hp, by have := (hl p (List.mem_cons_of_mem _ hp)).2; omega⟩), hs]
        congr 1
        apply List.countP_congr
        intro k hk
        have : k ≠ s := by have := (List.mem_range'_1.mp hk).1; omega
        simp [lookupCells, this]
      · have hs : lookupCells s ((j, w) :: rest) = none := by
          unfold lookupCells
          rw [if_neg e]
          exact lookupCells_none_of_risesFrom hrest s (by omega)
        have h1 := ih ((j, w) :: rest) (s + 1) b hr (fun x hx => by have := hb x hx; omega)
          (fun p hp => by
            have h2 := hl p hp
            rcases List.mem_cons.mp hp with rfl | hp'
            · exact ⟨by simp only at h2 ⊢; omega, by omega⟩
            · have := above p hp'; exact ⟨by simp only at hj; omega, by omega⟩)
        rw [h1, hs]
        rfl

/-- The records listed that satisfy a test, counted index by index below a bound that no listed index reaches. -/
theorem count_eq_countP {t : Table α} {n : Nat} (h : ∀ k, n ≤ k → t.lookup k = none) (f : α → Bool) :
    t.count f = (List.range n).countP fun k => (t.lookup k).any f := by
  have hl : ∀ p ∈ t.cells, 0 ≤ p.1 ∧ p.1 < 0 + n := by
    intro p hp
    refine ⟨Nat.zero_le _, ?_⟩
    rcases Nat.lt_or_ge p.1 n with hlt | hge
    · omega
    · exact absurd (h p.1 hge) (lookup_ne_none_of_mem hp)
  rw [List.range_eq_range']
  exact countP_lookupCells f n t.cells 0 none t.rising (by simp) hl

variable [DecidableEq α]

/-- The record at an index after a write: the one written, or the one that was there. -/
theorem get_put (t : Table α) (d v : α) (k j : Nat) : (t.put d k v).get d j = if j = k then v else t.get d j := by
  unfold get put
  split
  · rw [lookup_erase]
    split
    · subst_vars; rfl
    · rfl
  · rw [lookup_insert]
    split <;> rfl

@[simp] theorem get_put_self (t : Table α) (d v : α) (k : Nat) : (t.put d k v).get d k = v := by
  rw [get_put, if_pos rfl]

theorem get_put_other (t : Table α) (d v : α) {k j : Nat} (h : j ≠ k) : (t.put d k v).get d j = t.get d j := by
  rw [get_put, if_neg h]

theorem lookupCells_mapCells (d : α) (f : Nat → α → α) (j : Nat) (l : List (Nat × α)) :
    ∀ b : Option Nat, risesFrom b l = true →
      lookupCells j (mapCells d f l) = ((lookupCells j l).map (f j)).filter (· ≠ d) := by
  induction l with
  | nil => intro b _; rfl
  | cons p rest ih =>
    obtain ⟨i, w⟩ := p
    intro b h
    have hr := rest_rises h
    unfold mapCells
    by_cases e : j = i
    · subst e
      have hn : lookupCells j rest = none := lookupCells_none_of_risesFrom hr j (Nat.le_refl j)
      split
      · rename_i hd
        rw [ih _ hr, hn]
        simp [lookupCells, hd, Option.filter]
      · rename_i hd
        simp [lookupCells, hd, Option.filter]
    · split
      · rw [ih _ hr]; simp [lookupCells, e]
      · simp only [lookupCells, if_neg e]; exact ih _ hr

theorem lookup_map (t : Table α) (d : α) (f : Nat → α → α) (j : Nat) :
    (t.map d f).lookup j = ((t.lookup j).map (f j)).filter (· ≠ d) :=
  lookupCells_mapCells d f j t.cells none t.rising

/-- A map that keeps the default record maps every record. -/
theorem get_map (t : Table α) (f : Nat → α → α) (d : α) (j : Nat) (h : f j d = d) :
    (t.map d f).get d j = f j (t.get d j) := by
  unfold get
  rw [lookup_map]
  cases t.lookup j with
  | none => exact h.symm
  | some v =>
    by_cases e : f j v = d
    · simp [Option.filter, e]
    · simp [Option.filter, e]

end Sys2Proof.Machine.Table
end

