-- ==== Sys2Proof/Laws/Floor.lean ====
section
/-! SUPPORT. What the Floor Arbiter's operations can change: the floor records and the directive lists, and with a login or a
logout the accounts; nothing else. -/

namespace Sys2Proof.Machine

/-- A fold keeps whatever every step of it keeps. -/
theorem State.each_keeps {β : Type} (p : State → β) {f : State → Nat → State} (h : ∀ s a, p (f s a) = p s) (l : List Nat) :
    ∀ s : State, p (s.each l f) = p s := by
  induction l with
  | nil => intro s; rfl
  | cons a rest ih => intro s; exact (ih (f s a)).trans (h s a)

/-- Everything but the floor records, the booth bus and the accounts. -/
def State.pastFloor (s : State) : Cpi × Pls × Rte × Rks × Rpm × Tau × List Instr :=
  (s.cpi, s.pls, s.rte, s.rks, s.rpm, s.tau, s.pending)

/-- Everything but the floor records and the booth bus. -/
def State.offFloor (s : State) : (Cpi × Pls × Rte × Rks × Rpm × Tau × List Instr) × Acu := (s.pastFloor, s.acu)

theorem State.pastFloor_of_offFloor {s t : State} (h : t.offFloor = s.offFloor) : t.pastFloor = s.pastFloor :=
  congrArg Prod.fst h

theorem State.acu_of_offFloor {s t : State} (h : t.offFloor = s.offFloor) : t.acu = s.acu := congrArg Prod.snd h

theorem State.pastFloor_iff {s t : State} : t.pastFloor = s.pastFloor ↔
    t.cpi = s.cpi ∧ t.pls = s.pls ∧ t.rte = s.rte ∧ t.rks = s.rks ∧ t.rpm = s.rpm ∧ t.tau = s.tau ∧ t.pending = s.pending := by
  simp [State.pastFloor]

namespace State

@[simp] theorem setFloor_offFloor (s : State) (a : Nat) (x : FloorRecord) : (s.setFloor a x).offFloor = s.offFloor := rfl
@[simp] theorem setBooth_offFloor (s : State) (b : Nat) (x : BoothFloor) : (s.setBooth b x).offFloor = s.offFloor := rfl
@[simp] theorem setToken_offFloor (s : State) (k : Nat) (x : ChannelToken) : (s.setToken k x).offFloor = s.offFloor := rfl
@[simp] theorem setLink_offFloor (s : State) (a : Nat) (x : Link) : (s.setLink a x).offFloor = s.offFloor := rfl
@[simp] theorem onLink_offFloor (s : State) (a : Nat) (f : Link → Link) : (s.onLink a f).offFloor = s.offFloor := rfl
@[simp] theorem onSegment_offFloor (s : State) (g : Nat) (f : Segment → Segment) : (s.onSegment g f).offFloor = s.offFloor := rfl
@[simp] theorem onBooth_offFloor (s : State) (b : Nat) (f : BoothFloor → BoothFloor) : (s.onBooth b f).offFloor = s.offFloor := rfl
@[simp] theorem direct_offFloor (s : State) (a : Nat) (d : Directive) : (s.direct a d).offFloor = s.offFloor := rfl

theorem each_offFloor {f : State → Nat → State} (h : ∀ s a, (f s a).offFloor = s.offFloor) (s : State) (l : List Nat) :
    (s.each l f).offFloor = s.offFloor := each_keeps State.offFloor h l s

@[simp] theorem directBooth_offFloor (s : State) (b : Nat) (d : Directive) : (s.directBooth b d).offFloor = s.offFloor :=
  each_offFloor (by intros; rfl) _ _

@[simp] theorem goOff_offFloor (s : State) (a : Nat) (r : OffReason) : (s.goOff a r).offFloor = s.offFloor := rfl

@[simp] theorem goLive_offFloor (s : State) (a : Nat) : (s.goLive a).offFloor = s.offFloor := by
  unfold goLive; split <;> rfl

@[simp] theorem goWait_offFloor (s : State) (a : Nat) : (s.goWait a).offFloor = s.offFloor := rfl

@[simp] theorem passChannel_offFloor (s : State) (k : Nat) : (s.passChannel k).offFloor = s.offFloor := by
  unfold passChannel
  dsimp only
  split
  · rfl
  · split <;> simp

@[simp] theorem giveUpChannel_offFloor (b : Nat) (s : State) (k : Nat) : (giveUpChannel b s k).offFloor = s.offFloor := by
  unfold giveUpChannel
  dsimp only
  split
  · simp
  · split <;> rfl

@[simp] theorem giveUp_offFloor (s : State) (b : Nat) (c : Option Nat) : (s.giveUp b c).offFloor = s.offFloor :=
  each_offFloor (giveUpChannel_offFloor b) _ _

@[simp] theorem claimPass_offFloor (s : State) (b a c : Nat) : (s.claimPass b a c).1.offFloor = s.offFloor := by
  unfold claimPass
  dsimp only
  repeat' split
  all_goals simp

@[simp] theorem askLive_offFloor (s : State) (b a : Nat) : (s.askLive b a).offFloor = s.offFloor := by
  unfold askLive
  dsimp only
  split <;> rfl

@[simp] theorem passToken_offFloor (b : Nat) : ∀ (n : Nat) (s : State), (s.passToken b n).offFloor = s.offFloor := by
  intro n
  induction n with
  | zero => intro s; simp [passToken]
  | succ n ih =>
    intro s
    unfold passToken
    split
    · simp
    · dsimp only
      split
      · rw [ih]; simp
      · repeat' split
        all_goals simp [ih]

@[simp] theorem releaseToken_offFloor (s : State) (b a : Nat) (r : OffReason) : (s.releaseToken b a r).offFloor = s.offFloor := by
  simp [releaseToken]

@[simp] theorem leaveRequests_offFloor (s : State) (b a : Nat) (r : OffReason) :
    (s.leaveRequests b a r).offFloor = s.offFloor := rfl

@[simp] theorem forceOff_offFloor (s : State) (a : Nat) (r : OffReason) : (s.forceOff a r).offFloor = s.offFloor := by
  unfold forceOff; dsimp only; split <;> simp

@[simp] theorem claimRequest_offFloor (s : State) (b a c : Nat) : (s.claimRequest b a c).offFloor = s.offFloor := by
  unfold claimRequest
  dsimp only
  repeat' split
  all_goals simp

@[simp] theorem takeToken_offFloor (s : State) (b a : Nat) : (s.takeToken b a).offFloor = s.offFloor := by
  unfold takeToken
  dsimp only
  split <;> simp

@[simp] theorem takeRequest_offFloor (s : State) (a : Nat) : (s.takeRequest a).offFloor = s.offFloor := by
  unfold takeRequest
  dsimp only
  repeat' split
  all_goals simp

@[simp] theorem micRequest_offFloor (s : State) (a : Nat) : (s.micRequest a).1.offFloor = s.offFloor := by
  unfold micRequest
  repeat' split
  all_goals simp

@[simp] theorem changeDirection_offFloor (s : State) (b a : Nat) (d : Direction) :
    (s.changeDirection b a d).offFloor = s.offFloor := by
  unfold changeDirection
  dsimp only
  repeat' split
  all_goals simp

@[simp] theorem switchTo_offFloor (s : State) (a : Nat) (d : Direction) : (s.switchTo a d).offFloor = s.offFloor := by
  unfold switchTo
  dsimp only
  split <;> simp

@[simp] theorem redirect_offFloor (s : State) (b : Nat) : (s.redirect b).offFloor = s.offFloor := by
  unfold redirect
  dsimp only
  repeat' split
  all_goals simp

@[simp] theorem takePick_offFloor (s : State) (b : Nat) (p : Pick) : (s.takePick b p).offFloor = s.offFloor := by
  unfold takePick; split <;> simp

@[simp] theorem relayPick_offFloor (s : State) (a : Nat) (x : Option (BitVec 6)) :
    (s.relayPick a x).1.offFloor = s.offFloor := by
  unfold relayPick
  dsimp only
  split <;> simp

@[simp] theorem cueOut_offFloor (s : State) (a : Nat) (t : CueTarget) (x : Text) : (s.cueOut a t x).1.offFloor = s.offFloor := by
  unfold cueOut
  split
  · rfl
  · dsimp only
    rw [each_offFloor (by intros; rfl)]
    split <;> rfl

@[simp] theorem login_pastFloor (s : State) (a n : Nat) : (s.login a n).1.pastFloor = s.pastFloor := by
  unfold login
  repeat' split
  all_goals rfl

@[simp] theorem logout_pastFloor (s : State) (a : Nat) : (s.logout a).pastFloor = s.pastFloor := by
  unfold logout
  split
  · rfl
  · dsimp only
    split
    · rw [pastFloor_of_offFloor (forceOff_offFloor _ _ _)]; rfl
    · rfl

@[simp] theorem lossNotice_pastFloor (s : State) (a : Nat) : (s.lossNotice a).pastFloor = s.pastFloor := by
  unfold lossNotice
  rw [logout_pastFloor, pastFloor_of_offFloor (forceOff_offFloor _ _ _)]

@[simp] theorem joinNotice_offFloor (s : State) (a : Nat) : (s.joinNotice a).offFloor = s.offFloor := by
  unfold joinNotice; split <;> rfl

@[simp] theorem clearBooth_offFloor (s : State) (b : Nat) (r : OffReason) : (s.clearBooth b r).offFloor = s.offFloor := by
  unfold clearBooth
  rw [onBooth_offFloor, each_offFloor]
  intro s a
  split <;> simp

@[simp] theorem emptyChannels_offFloor (s : State) (h : Nat) : (s.emptyChannels h).offFloor = s.offFloor :=
  each_offFloor (by intros; rfl) _ _

@[simp] theorem leaveLive_offFloor (s : State) (h : Nat) : (s.leaveLive h).offFloor = s.offFloor := by
  unfold leaveLive
  dsimp only
  rw [each_offFloor (by simp), emptyChannels_offFloor, each_offFloor (by simp)]

@[simp] theorem enterLive_offFloor (s : State) (h : Nat) : (s.enterLive h).offFloor = s.offFloor :=
  each_offFloor (by simp) _ _

@[simp] theorem joinBooth_offFloor (r : OffReason) (s : State) (b : Nat) : (joinBooth r s b).offFloor = s.offFloor := by
  have h : ∀ u : State, (u.each (consolesOf b) fun t a => t.setFloor a { t.floor a with switch := .a }).offFloor = u.offFloor :=
    fun u => each_offFloor (by intros; rfl) _ _
  unfold joinBooth
  dsimp only
  split <;> simp [h]

@[simp] theorem pairNotice_offFloor (s : State) (h : Nat) (r : OffReason) : (s.pairNotice h r).offFloor = s.offFloor := by
  unfold pairNotice
  dsimp only
  rw [emptyChannels_offFloor, emptyChannels_offFloor, each_offFloor (joinBooth_offFloor r)]

@[simp] theorem vacate_offFloor (b : Nat) (s : State) (k : Nat) : (vacate b s k).offFloor = s.offFloor := by
  unfold vacate
  dsimp only
  repeat' split
  all_goals rfl

@[simp] theorem cutBooth_offFloor (old : Pls) (s : State) (b : Nat) : (cutBooth old s b).offFloor = s.offFloor := by
  unfold cutBooth
  rw [each_offFloor (vacate_offFloor b), clearBooth_offFloor]

@[simp] theorem moveTokens_offFloor (s : State) (old : Pls) : (s.moveTokens old).offFloor = s.offFloor := by
  unfold moveTokens
  refine each_offFloor (fun t h => ?_) _ _
  exact each_offFloor (by intros; rfl) _ _

@[simp] theorem fillChannels_offFloor (s : State) : s.fillChannels.offFloor = s.offFloor := by
  unfold fillChannels
  refine each_offFloor (fun t k => ?_) _ _
  split <;> simp

@[simp] theorem relock_offFloor (old : Pls) (s : State) (b : Nat) : (relock old s b).offFloor = s.offFloor := by
  unfold relock
  dsimp only
  repeat' split
  all_goals simp

@[simp] theorem planNotice_offFloor (s : State) (old : Pls) : (s.planNotice old).1.offFloor = s.offFloor := by
  unfold planNotice
  dsimp only
  rw [each_offFloor (relock_offFloor old), each_offFloor (by simp), each_offFloor (by simp), each_offFloor (by simp),
    fillChannels_offFloor, moveTokens_offFloor, each_offFloor (cutBooth_offFloor old)]

/-! ## The Floor Arbiter's share of a tick, short of its floor notice -/

@[simp] theorem expireHandover_offFloor (s : State) (b : Nat) : (s.expireHandover b).offFloor = s.offFloor := by
  unfold expireHandover; split <;> simp

@[simp] theorem deadlineShare_offFloor (s : State) (b : Nat) : (s.deadlineShare b).offFloor = s.offFloor := by
  unfold deadlineShare
  repeat' split
  all_goals simp

end State

end Sys2Proof.Machine
end

