-- ==== Sys2Proof/Laws/Route.lean ====
section
/-! SUPPORT. What the Route Engine's operations can change: the routing map and the link, the apply register and its report, the
announced maps, and the cause set; nothing else. -/

namespace Sys2Proof.Machine

/-- A hall record without its announced map and version. -/
def Hall.still (x : Hall) : Hall := { x with announced := Table.empty, mapVersion := 0 }

/-- The Plan Store without the apply register, the report and the announced maps. -/
def Pls.still (p : Pls) : (Table Text × Plan × Plan × BitVec 16 × BitVec 16) × (Nat → Hall) :=
  ((p.languages, p.draft, p.active, p.draftVersion, p.planVersion), fun h => (p.halls.get Hall.initial h).still)

/-- The Timebase and Attention Unit without the cause set. -/
def Tau.still (t : Tau) : Tau := { t with causes := 0 }

/-- Everything that the Route Engine's operations keep. -/
def State.offRoutes (s : State) :
    (Cpi × Bbc × Fla × Rks × Rpm × Acu × List Instr) × Tau ×
      ((Table Text × Plan × Plan × BitVec 16 × BitVec 16) × (Nat → Hall)) :=
  ((s.cpi, s.bbc, s.fla, s.rks, s.rpm, s.acu, s.pending), s.tau.still, s.pls.still)

theorem State.offRoutes_iff {s t : State} : t.offRoutes = s.offRoutes ↔
    (t.cpi = s.cpi ∧ t.bbc = s.bbc ∧ t.fla = s.fla ∧ t.rks = s.rks ∧ t.rpm = s.rpm ∧ t.acu = s.acu ∧ t.pending = s.pending) ∧
      t.tau.still = s.tau.still ∧ t.pls.still = s.pls.still := by
  simp only [State.offRoutes, Prod.mk.injEq]

namespace State

@[simp] theorem setRoute_offRoutes (s : State) (d : Nat) (x : Route) : (s.setRoute d x).offRoutes = s.offRoutes := rfl
@[simp] theorem raise_offRoutes (s : State) (c : Cause) : (s.raise c).offRoutes = s.offRoutes := rfl

theorem each_offRoutes {f : State → Nat → State} (h : ∀ s a, (f s a).offRoutes = s.offRoutes) (s : State) (l : List Nat) :
    (s.each l f).offRoutes = s.offRoutes := each_keeps State.offRoutes h l s

/-- A write of a hall record that changes only what its generator announces. -/
theorem setHall_offRoutes (s : State) (h : Nat) (x : Hall) (k : x.still = (s.hall h).still) :
    (s.setHall h x).offRoutes = s.offRoutes := by
  rw [offRoutes_iff]
  refine ⟨⟨rfl, rfl, rfl, rfl, rfl, rfl, rfl⟩, rfl, ?_⟩
  unfold Pls.still
  refine Prod.ext rfl (funext fun j => ?_)
  show ((s.pls.halls.put Hall.initial h x).get Hall.initial j).still = _
  rw [Table.get_put]
  split
  · rename_i e
    rw [e]
    exact k
  · rfl

@[simp] theorem beaconTest_offRoutes (s : State) (h : Nat) : (s.beaconTest h).offRoutes = s.offRoutes := by
  unfold beaconTest
  dsimp only
  split
  · rfl
  · exact setHall_offRoutes s h _ rfl

@[simp] theorem completeApply_offRoutes (s : State) : s.completeApply.offRoutes = s.offRoutes := by
  unfold completeApply
  split
  · rfl
  · split <;> rfl

@[simp] theorem markCleared_offRoutes (s : State) (d : Nat) (b : Bool) : (s.markCleared d b).offRoutes = s.offRoutes := by
  unfold markCleared
  dsimp only
  rw [completeApply_offRoutes, beaconTest_offRoutes]
  rfl

@[simp] theorem recompute_offRoutes (n : Notice) (s : State) (d : Nat) : (recompute n s d).offRoutes = s.offRoutes := by
  unfold recompute
  dsimp only
  repeat' split
  · rfl
  · rfl
  · rw [markCleared_offRoutes]; rfl
  · rfl
  · rfl

@[simp] theorem notice_offRoutes (s : State) (n : Notice) (ds : List Nat) : (s.notice n ds).offRoutes = s.offRoutes :=
  each_offRoutes (recompute_offRoutes n) _ _

@[simp] theorem floorNotice_offRoutes (s before : State) : (s.floorNotice before).offRoutes = s.offRoutes := by
  unfold floorNotice
  rw [notice_offRoutes]

@[simp] theorem applyNotice_offRoutes (s : State) (o : Operation) : (s.applyNotice o).offRoutes = s.offRoutes := by
  unfold applyNotice
  dsimp only
  rw [completeApply_offRoutes, each_offRoutes beaconTest_offRoutes]
  generalize e : s.notice .apply destinationNumbers = u
  have h : u.offRoutes = s.offRoutes := by rw [← e, notice_offRoutes]
  exact h

@[simp] theorem doneTaken_offRoutes (s : State) (c : SetCommand) : (s.doneTaken c).offRoutes = s.offRoutes := by
  unfold doneTaken
  dsimp only
  repeat' split
  · rw [markCleared_offRoutes]; rfl
  · rfl
  · rfl

@[simp] theorem refusedByUnit_offRoutes (s : State) (c : SetCommand) : (s.refusedByUnit c).offRoutes = s.offRoutes := by
  unfold refusedByUnit
  dsimp only
  split
  · rw [markCleared_offRoutes]; rfl
  · rfl

@[simp] theorem abandonApply_offRoutes (s : State) : s.abandonApply.offRoutes = s.offRoutes := by
  unfold abandonApply; split <;> rfl

@[simp] theorem recomputeAll_offRoutes (s : State) : s.recomputeAll.offRoutes = s.offRoutes := by
  unfold recomputeAll
  exact each_offRoutes (fun t d => setRoute_offRoutes t d _) _ _

theorem rte_offRoutes (s : State) (r : Rte) : ({ s with rte := r } : State).offRoutes = s.offRoutes := rfl

@[simp] theorem restartRoutes_offRoutes (s : State) : s.restartRoutes.offRoutes = s.offRoutes := by
  unfold restartRoutes
  generalize e : s.abandonApply.recomputeAll = u
  have h : u.offRoutes = s.offRoutes := by rw [← e, recomputeAll_offRoutes, abandonApply_offRoutes]
  dsimp only
  split
  · rw [each_offRoutes beaconTest_offRoutes, rte_offRoutes, h]
  · rw [rte_offRoutes, h]

/-! ## What follows for single fields -/

theorem pls_active_of_offRoutes {s t : State} (h : t.offRoutes = s.offRoutes) : t.pls.active = s.pls.active :=
  congrArg (fun x => x.2.2.1.2.2.1) h

theorem hall_still_of_offRoutes {s t : State} (h : t.offRoutes = s.offRoutes) (n : Nat) :
    (t.hall n).still = (s.hall n).still :=
  congrFun (congrArg (fun x => x.2.2.2) h) n

/-- A hall record's state, join, organiser, tariff, beacon on and frames stay. -/
theorem hall_of_offRoutes {s t : State} (h : t.offRoutes = s.offRoutes) (n : Nat) :
    (t.hall n).state = (s.hall n).state ∧ (t.hall n).joined = (s.hall n).joined ∧
      (t.hall n).organiser = (s.hall n).organiser ∧ (t.hall n).tariff = (s.hall n).tariff ∧
      (t.hall n).beaconOn = (s.hall n).beaconOn ∧ (t.hall n).sent = (s.hall n).sent ∧
      (t.hall n).nextFrame = (s.hall n).nextFrame := by
  have k := hall_still_of_offRoutes h n
  simp only [Hall.still, Hall.mk.injEq] at k
  tauto

theorem tau_of_offRoutes {s t : State} (h : t.offRoutes = s.offRoutes) :
    t.tau.clock = s.tau.clock ∧ t.tau.internal = s.tau.internal ∧ t.tau.watch = s.tau.watch ∧
      t.tau.nextInternal = s.tau.nextInternal ∧ t.tau.enables = s.tau.enables ∧ t.tau.faults = s.tau.faults ∧
      t.tau.pulses = s.tau.pulses ∧ t.tau.now = s.tau.now := by
  have k : t.tau.still = s.tau.still := (offRoutes_iff.mp h).2.1
  simp only [Tau.still, Tau.mk.injEq] at k
  tauto

end State

end Sys2Proof.Machine
end

