-- ==== Sys2Proof/Laws/Hire.lean ====
section
/-! SUPPORT. What the hire side's operations can change: the racks and slots, the receivers, tickets and queues, the accounts, and
the cause set; nothing else. -/

namespace Sys2Proof.Machine

/-- Everything that the Rack Scanner's and the Receiver Pool's operations keep. -/
def State.offHire (s : State) : (Cpi × Pls × Rte × Bbc × Fla × List Instr) × Tau :=
  ((s.cpi, s.pls, s.rte, s.bbc, s.fla, s.pending), s.tau.still)

theorem State.offHire_iff {s t : State} : t.offHire = s.offHire ↔
    (t.cpi = s.cpi ∧ t.pls = s.pls ∧ t.rte = s.rte ∧ t.bbc = s.bbc ∧ t.fla = s.fla ∧ t.pending = s.pending) ∧
      t.tau.still = s.tau.still := by
  simp only [State.offHire, Prod.mk.injEq]

namespace State

@[simp] theorem setRack_offHire (s : State) (k : Nat) (x : Rack) : (s.setRack k x).offHire = s.offHire := rfl
@[simp] theorem setSlot_offHire (s : State) (k : Nat) (x : Slot) : (s.setSlot k x).offHire = s.offHire := rfl
@[simp] theorem setReceiver_offHire (s : State) (r : Nat) (x : Receiver) : (s.setReceiver r x).offHire = s.offHire := rfl
@[simp] theorem onReceiver_offHire (s : State) (r : Nat) (f : Receiver → Receiver) : (s.onReceiver r f).offHire = s.offHire := rfl
@[simp] theorem setQueue_offHire (s : State) (d : Nat) (l : List Nat) : (s.setQueue d l).offHire = s.offHire := rfl
@[simp] theorem setTicket_offHire (s : State) (t : Nat) (x : Ticket) : (s.setTicket t x).offHire = s.offHire := rfl
@[simp] theorem freeTicket_offHire (s : State) (t : Nat) : (s.freeTicket t).offHire = s.offHire := rfl
@[simp] theorem setListening_offHire (s : State) (h l n : Nat) : (s.setListening h l n).offHire = s.offHire := rfl
@[simp] theorem listenUp_offHire (s : State) (h l : Nat) : (s.listenUp h l).offHire = s.offHire := rfl
@[simp] theorem listenDown_offHire (s : State) (h l : Nat) : (s.listenDown h l).offHire = s.offHire := rfl
@[simp] theorem setAccount_offHire (s : State) (a : Nat) (x : Account) : (s.setAccount a x).offHire = s.offHire := rfl
@[simp] theorem onAccount_offHire (s : State) (a : Nat) (f : Account → Account) : (s.onAccount a f).offHire = s.offHire := rfl
@[simp] theorem raise_offHire (s : State) (c : Cause) : (s.raise c).offHire = s.offHire := rfl
@[simp] theorem freeLine_offHire (s : State) : s.freeLine.offHire = s.offHire := rfl

theorem each_offHire {f : State → Nat → State} (h : ∀ s a, (f s a).offHire = s.offHire) (s : State) (l : List Nat) :
    (s.each l f).offHire = s.offHire := each_keeps State.offHire h l s

@[simp] theorem changeSlot_offHire (s : State) (k : Nat) (x : Slot) : (s.changeSlot k x).offHire = s.offHire := by
  unfold changeSlot; dsimp only; split <;> rfl

@[simp] theorem queueJob_offHire (s : State) (j : Job) : (s.queueJob j).1.offHire = s.offHire := by
  unfold queueJob; split <;> rfl

@[simp] theorem ask_offHire (s : State) (k : Nat) (x : JobKind) (o : JobOrigin) : (s.ask k x o).offHire = s.offHire := by
  simp [ask]

@[simp] theorem dropJobs_offHire (s : State) (k : Nat) : (s.dropJobs k).offHire = s.offHire := rfl
@[simp] theorem withdraw_offHire (s : State) (k : Nat) : (s.withdraw k).offHire = s.offHire := rfl

@[simp] theorem setProfile_offHire (s : State) (b : Bool) : (s.setProfile b).offHire = s.offHire := by
  unfold setProfile; split <;> rfl

@[simp] theorem rackUp_offHire (s : State) (k : Nat) : (s.rackUp k).offHire = s.offHire := rfl

@[simp] theorem joinQueue_offHire (s : State) (r k : Nat) : (s.joinQueue r k).offHire = s.offHire := by
  unfold joinQueue; split <;> rfl

@[simp] theorem leaveQueue_offHire (s : State) (r : Nat) : (s.leaveQueue r).offHire = s.offHire :=
  each_offHire (by intros; rfl) _ _

@[simp] theorem rejoinQueue_offHire (s : State) (r : Nat) : (s.rejoinQueue r).offHire = s.offHire := by
  unfold rejoinQueue
  split
  · rfl
  · split <;> rfl

@[simp] theorem onTicket_offHire (s : State) (t : Nat) (f : Ticket → Ticket) : (s.onTicket t f).offHire = s.offHire := by
  unfold onTicket; split <;> rfl

@[simp] theorem askPreset_offHire (s : State) (t k : Nat) : (s.askPreset t k).offHire = s.offHire := by
  unfold askPreset; split <;> simp

@[simp] theorem askLatchOpen_offHire (s : State) (t k : Nat) : (s.askLatchOpen t k).offHire = s.offHire := by
  simp [askLatchOpen]

@[simp] theorem takeReceiver_offHire (s : State) (t r : Nat) : (s.takeReceiver t r).offHire = s.offHire := by
  unfold takeReceiver
  dsimp only
  split
  · simp
  · split <;> simp

@[simp] theorem endIssuing_offHire (s : State) (k : Nat) : (s.endIssuing k).offHire = s.offHire := by
  unfold endIssuing; split <;> simp

@[simp] theorem endTicket_offHire (s : State) (t : Nat) (x : TicketState) (e : TicketEnding) :
    (s.endTicket t x e).offHire = s.offHire := by
  simp [endTicket]

@[simp] theorem giveBack_offHire (s : State) (a r : Nat) : (s.giveBack a r).offHire = s.offHire := by
  unfold giveBack
  dsimp only
  split <;> simp

@[simp] theorem expirePickup_offHire (s : State) (t : Nat) : (s.expirePickup t).offHire = s.offHire := by
  unfold expirePickup
  split
  · rfl
  · dsimp only
    split
    · simp
    · split <;> simp

@[simp] theorem cancelTicket_offHire (s : State) (t : Nat) (x : Ticket) : (s.cancelTicket t x).offHire = s.offHire := by
  unfold cancelTicket
  split
  · simp
  · dsimp only
    split <;> simp

@[simp] theorem abortTicket_offHire (s : State) (t : Nat) : (s.abortTicket t).offHire = s.offHire := by
  unfold abortTicket
  split
  · rfl
  · split
    · rfl
    · dsimp only
      split <;> simp

@[simp] theorem completion_offHire (s : State) (k : Nat) (x : JobKind) (o : Option Nat) :
    (s.completion k x o).offHire = s.offHire := by
  unfold completion
  split
  · rfl
  · split <;> simp

@[simp] theorem unitFailure_offHire (s : State) (k r t : Nat) (x : Ticket) : (s.unitFailure k r t x).offHire = s.offHire := by
  unfold unitFailure
  dsimp only
  repeat' split
  all_goals simp

@[simp] theorem failure_offHire (s : State) (k : Nat) (o : Option Nat) : (s.failure k o).offHire = s.offHire := by
  unfold failure
  repeat' split
  all_goals simp

@[simp] theorem pickup_offHire (s : State) (r t : Nat) (x : Ticket) : (s.pickup r t x).offHire = s.offHire := by
  simp [pickup]

@[simp] theorem removed_offHire (s : State) (k r : Nat) : (s.removed k r).offHire = s.offHire := by
  unfold removed; dsimp only; split <;> rfl

@[simp] theorem departure_offHire (s : State) (k r : Nat) : (s.departure k r).offHire = s.offHire := by
  unfold departure
  repeat' split
  all_goals simp

@[simp] theorem examine_offHire (s : State) (r k b : Nat) (h : Health) : (s.examine r k b h).offHire = s.offHire := by
  unfold examine
  repeat' split
  all_goals simp

@[simp] theorem dockReceiver_offHire (s : State) (r k b : Nat) (h : Health) : (s.dockReceiver r k b h).offHire = s.offHire := by
  unfold dockReceiver; split <;> simp

@[simp] theorem closeHire_offHire (s : State) (r : Nat) (h : Hire) : (s.closeHire r h).offHire = s.offHire := rfl

@[simp] theorem returned_offHire (s : State) (r k b : Nat) (h : Health) : (s.returned r k b h).offHire = s.offHire := by
  unfold returned; split <;> simp

@[simp] theorem reverseLoss_offHire (s : State) (r : Nat) (h : Hire) : (s.reverseLoss r h).offHire = s.offHire := rfl

@[simp] theorem returnedLate_offHire (s : State) (r k b : Nat) (h : Health) :
    (s.returnedLate r k b h).offHire = s.offHire := by
  unfold returnedLate; split <;> simp

@[simp] theorem vacateSlot_offHire (s : State) (k : Nat) : (s.vacateSlot k).offHire = s.offHire := by
  simp [vacateSlot]

@[simp] theorem moveReceiver_offHire (s : State) (r o k b : Nat) (h : Health) :
    (s.moveReceiver r o k b h).offHire = s.offHire := by
  unfold moveReceiver
  dsimp only
  repeat' split
  all_goals simp

@[simp] theorem identifyKnown_offHire (s : State) (r k b : Nat) (h : Health) :
    (s.identifyKnown r k b h).offHire = s.offHire := by
  unfold identifyKnown
  dsimp only
  repeat' split
  all_goals simp

@[simp] theorem identification_offHire (s : State) (k : Nat) (w : Word) (b : Nat) (h : Health) :
    (s.identification k w b h).offHire = s.offHire := by
  unfold identification; split <;> simp

@[simp] theorem overdueCheck_offHire (s : State) (r : Nat) : (s.overdueCheck r).offHire = s.offHire := by
  unfold overdueCheck
  split
  · split <;> rfl
  · rfl

@[simp] theorem lostCheck_offHire (s : State) (r : Nat) : (s.lostCheck r).offHire = s.offHire := by
  unfold lostCheck
  split
  · dsimp only
    split <;> rfl
  · rfl

@[simp] theorem pickupTick_offHire (s : State) (t : Nat) : (s.pickupTick t).offHire = s.offHire := by
  unfold pickupTick
  repeat' split
  all_goals simp

@[simp] theorem poolTick_offHire (s : State) : s.poolTick.offHire = s.offHire := by
  unfold poolTick
  dsimp only
  rw [each_offHire (by simp), each_offHire (by simp)]

/-! ## Presence, contact jobs, the charge poll -/

@[simp] theorem wakeUp_offHire (s : State) (w : Bool) : (s.wakeUp w).offHire = s.offHire := by
  unfold wakeUp; split <;> simp

@[simp] theorem settlePresent_offHire (s : State) (k : Nat) (x : Slot) : (s.settlePresent k x).offHire = s.offHire := by
  simp [settlePresent]

@[simp] theorem settleAbsent_offHire (s : State) (k : Nat) (x : Slot) : (s.settleAbsent k x).offHire = s.offHire := by
  unfold settleAbsent
  dsimp only
  split <;> simp

@[simp] theorem takeReading_offHire (s : State) (k : Nat) (r : Bool) : (s.takeReading k r).offHire = s.offHire := by
  unfold takeReading
  repeat' split
  all_goals simp

@[simp] theorem takeReadings_offHire (s : State) (k : Nat) (r : List Bool) : (s.takeReadings k r).offHire = s.offHire :=
  each_offHire (by simp) _ _

@[simp] theorem scanned_offHire (s : State) (k : Nat) (r : List Bool) : (s.scanned k r).offHire = s.offHire := by
  unfold scanned
  dsimp only
  split <;> simp

@[simp] theorem jobFails_offHire (s : State) (k : Nat) (j : Job) (l : List Job) : (s.jobFails k j l).offHire = s.offHire := by
  simp [jobFails]

@[simp] theorem attemptFails_offHire (s : State) (k : Nat) : (s.attemptFails k).offHire = s.offHire := by
  unfold attemptFails
  dsimp only
  repeat' split
  all_goals simp

@[simp] theorem takeIdentity_offHire (s : State) (k : Nat) (w : Word) (b : Nat) (h : Health) :
    (s.takeIdentity k w b h).offHire = s.offHire := by
  unfold takeIdentity
  repeat' split
  all_goals simp

@[simp] theorem jobCompletes_offHire (s : State) (j : Job) : (s.jobCompletes j).offHire = s.offHire := by
  unfold jobCompletes
  dsimp only
  split <;> simp

@[simp] theorem removeJob_offHire (s : State) (k : Nat) : (s.removeJob k).offHire = s.offHire := rfl
@[simp] theorem nextResult_offHire (s : State) (k m : Nat) : (s.nextResult k m).offHire = s.offHire := rfl

@[simp] theorem resultTaken_offHire (s : State) (k : Nat) (j : Job) (m : Nat) (o : ResultOutcome) :
    (s.resultTaken k j m o).offHire = s.offHire := by
  unfold resultTaken
  repeat' split
  all_goals simp

@[simp] theorem noReply_offHire (s : State) (e : Exchange) : (s.noReply e).offHire = s.offHire := by
  unfold noReply; split <;> simp

@[simp] theorem chargePoll_offHire (s : State) : s.chargePoll.offHire = s.offHire :=
  each_offHire (by simp) _ _

@[simp] theorem rackTick_offHire (s : State) : s.rackTick.offHire = s.offHire := by
  unfold rackTick
  split
  · rw [chargePoll_offHire]; rfl
  · rfl

@[simp] theorem restartRacks_offHire (s : State) : s.restartRacks.offHire = s.offHire := by
  unfold restartRacks
  generalize rackNumbers.foldl (fun r k => r.setRack k ((r.rack k).restart s.now)) s.rks = x
  dsimp only
  rw [each_offHire (by simp)]
  rfl

theorem tau_of_offHire {s t : State} (h : t.offHire = s.offHire) :
    t.tau.clock = s.tau.clock ∧ t.tau.internal = s.tau.internal ∧ t.tau.watch = s.tau.watch ∧
      t.tau.nextInternal = s.tau.nextInternal ∧ t.tau.enables = s.tau.enables ∧ t.tau.faults = s.tau.faults ∧
      t.tau.pulses = s.tau.pulses ∧ t.tau.now = s.tau.now := by
  have k : t.tau.still = s.tau.still := (offHire_iff.mp h).2
  simp only [Tau.still, Tau.mk.injEq] at k
  tauto

end State

end Sys2Proof.Machine
end

