-- ==== Sys2Proof/Laws/Line.lean ====
section
/-! SUPPORT. What the readers of bits and characters answer on what a sender puts on the line, and what recovery and the booth tokens
come to in the words of Safety.lean. -/

namespace Sys2Proof

/-- A byte is its eight bits. -/
theorem ofBoolListBE_bits (b : Byte) : BitVec.ofBoolListBE (byteBits b) = b := by
  apply BitVec.eq_of_getLsbD_eq
  intro i hi
  have hi : i < 8 := hi
  rw [BitVec.getLsbD_ofBoolListBE]
  obtain rfl | rfl | rfl | rfl | rfl | rfl | rfl | rfl : i = 0 ∨ i = 1 ∨ i = 2 ∨ i = 3 ∨ i = 4 ∨ i = 5 ∨ i = 6 ∨ i = 7 := by omega
  all_goals rfl

/-- Bits taken from a byte, most significant first, are that byte (R180). -/
theorem bitsBytes_byteBits (b : Byte) (rest : List Bool) : bitsBytes (byteBits b ++ rest) = b :: bitsBytes rest :=
  congrArg (· :: bitsBytes rest) (ofBoolListBE_bits b)

/-- Fewer than eight bits over are no byte. -/
theorem bitsBytes_short : ∀ rest : List Bool, rest.length < 8 → bitsBytes rest = []
  | [], _ | [_], _ | [_, _], _ | [_, _, _], _ | [_, _, _, _], _ | [_, _, _, _, _], _ | [_, _, _, _, _, _], _
  | [_, _, _, _, _, _, _], _ => rfl
  | _ :: _ :: _ :: _ :: _ :: _ :: _ :: _ :: _, h => by simp only [List.length_cons] at h; omega

/-- A character is read back from its levels, with the idle bit times before it (R192). -/
theorem readChars_charBits (idle : Nat) (b : Byte) (rest : List Bool) :
    readChars idle (charBits b ++ rest) = (idle, b) :: readChars 0 rest :=
  congrArg (fun x => (idle, x) :: readChars 0 rest) (ofBoolListBE_bits b)

/-- A level of the idle line adds a bit time to the pause. -/
@[simp] theorem readChars_idle (idle : Nat) (rest : List Bool) : readChars idle (true :: rest) = readChars (idle + 1) rest := rfl

/-- While an exchange goes on and RESET_N is high: a rising edge of CP_SCK samples a bit, a falling edge changes the one shown (R180). -/
theorem PortReader.next_selected {r : PortReader} {p : PortLevels} {bits : List Bool} (hb : r.bits = some bits) (hs : r.selN = false)
    (hp : p.selN = false) (hr : p.resetN = true) :
    r.next p = ({ selN := false, sck := p.sck
                  bits := some (if r.sck = false ∧ p.sck = true then bits ++ [p.din] else bits)
                  shown := if r.sck = true ∧ p.sck = false then bits.length else r.shown }, none) := by
  obtain ⟨_, k, _, _⟩ := r
  obtain ⟨_, k', _, _⟩ := p
  subst hb hs hp hr
  cases k <;> cases k' <;> rfl

/-- Where CP_SEL_N goes low an exchange begins, with no bit sampled and its first bit shown. -/
theorem PortReader.next_begin {r : PortReader} {p : PortLevels} (hs : r.selN = true) (hp : p.selN = false) (hr : p.resetN = true) :
    r.next p = ({ selN := false, sck := p.sck, bits := some [], shown := 0 }, none) := by
  obtain ⟨_, _, _, _⟩ := r
  obtain ⟨_, _, _, _⟩ := p
  subst hs hp hr
  rfl

/-- The two levels of one clock of CP_SCK: low, then high, with the bit on CP_DIN. -/
def clockLevels (b : Bool) : List PortLevels :=
  [{ selN := false, sck := false, din := b, resetN := true }, { selN := false, sck := true, din := b, resetN := true }]

/-- One clock in an exchange samples its bit and shows the bit after those sampled before it, where the clock stood high or that bit is
shown already. -/
theorem PortReader.next_clock {r : PortReader} {bits : List Bool} (b : Bool) (hb : r.bits = some bits) (hs : r.selN = false)
    (hk : r.sck = true ∨ r.shown = bits.length) :
    let low : PortLevels := { selN := false, sck := false, din := b, resetN := true }
    let high : PortLevels := { low with sck := true }
    r.next low = ({ selN := false, sck := false, bits := some bits, shown := bits.length }, none) ∧
    (r.next low).1.next high = ({ selN := false, sck := true, bits := some (bits ++ [b]), shown := bits.length }, none) := by
  obtain ⟨_, k, _, n⟩ := r
  subst hb hs
  refine ⟨?_, ?_⟩ <;> cases k
  all_goals first | rfl | (have hk : n = bits.length := by simpa using hk
                           subst hk; rfl)

/-- The bits clocked in during an exchange, then CP_SEL_N high: the command they spell (R180). -/
theorem portCommands_clocked (idle : Bool) : ∀ (more bits : List Bool) (r : PortReader), r.bits = some bits → r.selN = false →
    (r.sck = true ∨ r.shown = bits.length) →
    portCommands r (more.flatMap clockLevels ++ [{ selN := true, sck := idle, din := false, resetN := true }]) =
      (decodeBits (bits ++ more)).toList
  | [], bits, r, hb, hs, _ => by
    obtain ⟨_, k, _, n⟩ := r
    subst hb hs
    simp [portCommands, PortReader.next, PortReader.sampled]
  | b :: more, bits, r, hb, hs, hk => by
    obtain ⟨h1, h2⟩ := PortReader.next_clock b hb hs hk
    have ih := portCommands_clocked idle more (bits ++ [b])
      { selN := false, sck := true, bits := some (bits ++ [b]), shown := bits.length } rfl rfl (.inl rfl)
    rw [h1] at h2
    simp only [List.flatMap_cons, clockLevels, List.cons_append, List.nil_append, portCommands, h1, h2, Option.toList_none]
    simpa [List.append_assoc] using ih

namespace Machine

/-- While bits are clocked in, CP_DOUT carries at each clock, from its falling edge on, the bit after those sampled before it (R180). -/
theorem Cpi.drivenLevels_clocked (c : Cpi) : ∀ (more bits : List Bool) (r : PortReader), r.bits = some bits → r.selN = false →
    (r.sck = true ∨ r.shown = bits.length) →
    c.drivenLevels r (more.flatMap clockLevels) =
      (List.range' bits.length more.length).flatMap fun i => [c.dout true i, c.dout true i]
  | [], _, _, _, _, _ => rfl
  | b :: more, bits, r, hb, hs, hk => by
    obtain ⟨h1, h2⟩ := PortReader.next_clock b hb hs hk
    have ih := Cpi.drivenLevels_clocked c more (bits ++ [b])
      { selN := false, sck := true, bits := some (bits ++ [b]), shown := bits.length } rfl rfl (.inl rfl)
    rw [h1] at h2
    rw [List.length_append] at ih
    simp only [List.flatMap_cons, clockLevels, List.cons_append, List.nil_append, Cpi.drivenLevels, h1, h2, List.length_cons,
      List.range'_succ]
    exact congrArg (fun x => c.dout true bits.length :: c.dout true bits.length :: x) ih

open Safety

/-- While reset recovery is in progress the segments and the rack line begin nothing (log 33). -/
theorem State.settle_in_recovery {s : State} (h : ¬ Ready s) : s.settle.bbc = s.bbc ∧ s.settle.rks = s.rks := by
  have h' : s.cpi.recovery.isSome = true := Option.isSome_iff_ne_none.mpr h
  rw [State.settle_bbc, State.settle_rks, if_pos h', if_pos h']
  exact ⟨rfl, rfl⟩

end Machine

/-- Where the tokens are held, every holder is a console of the booth. -/
theorem Safety.TokensHeld.holdersAtHome {s : Machine.State} (h : Safety.TokensHeld s) : Safety.HoldersAtHome s :=
  fun b a e => ((h.1 b a).mp e).1

end Sys2Proof
end

