-- ==== Sys2Proof/Laws/Operands.lean ====
section
/-! SUPPORT. When a field of a request has no value: it lies outside its range (R187, 9.5.1). -/

namespace Sys2Proof.Machine

theorem below_eq_none {n : Nat} {w : Word} : below n w = none ↔ n ≤ w.toNat := by
  simp [below]

theorem within_eq_none {lo hi : Nat} {w : Word} : within lo hi w = none ↔ w.toNat < lo ∨ hi < w.toNat := by
  simp [within]; omega

theorem onOff_eq_none {w : Word} : onOff w = none ↔ 1 < w.toNat := by
  unfold onOff
  constructor
  · intro h
    split at h <;> rename_i h0
    · cases h
    split at h <;> rename_i h1
    · cases h
    have h0 : w.toNat ≠ 0 := fun e => h0 (BitVec.eq_of_toNat_eq e)
    have h1 : w.toNat ≠ 1 := fun e => h1 (BitVec.eq_of_toNat_eq e)
    omega
  · intro h
    rw [if_neg, if_neg] <;> · rintro rfl; revert h; decide

end Sys2Proof.Machine
end

