-- ==== Sys2Proof/Laws/Port.lean ====
section
/-! SUPPORT. What an exchange of the control port comes to: a request served while the port answers, a request met by reset
recovery, an event. -/

namespace Sys2Proof.Machine

open Sys2Proof.Safety

/-- A request served while the port answers: where the owner leaves the records of `u` and touches nothing of the exchange, the
state is the one that `answered` names. -/
theorem State.serve_answered {s u : State} {code : Byte} {tag : Tag} {owner : State → Handled} {r : Result} {b : List Word}
    (h : Ready s) (ho : (owner s.deliver).2 = (r, b))
    (hu : (owner s.deliver).1 =
      { u with cpi := { u.cpi with status := s.tau.statusByte false, delivered := some s.cpi.held } }) :
    s.serve code tag owner = answered s u code tag r b := by
  have h1 : (owner s.deliver).2.1 = r := congrArg Prod.fst ho
  have h2 : (owner s.deliver).2.2 = b := congrArg Prod.snd ho
  unfold Ready at h
  simp only [State.serve, State.exchange, h, Option.isSome_none, Bool.false_eq_true, if_false, State.hold, hu, h1, h2,
    answered]

/-- A request that its owner refuses while the port answers changes no record (R187). -/
theorem State.serve_refused {s : State} {code : Byte} {tag : Tag} {owner : State → Handled} {r : Result} (h : Ready s)
    (ho : owner s.deliver = refuse s.deliver r) : s.serve code tag owner = answered s s code tag r [] :=
  State.serve_answered h (congrArg Prod.snd ho) (congrArg Prod.fst ho)

/-- A request met by reset recovery is discarded (R183). -/
theorem State.serve_notReady {s : State} (code : Byte) (tag : Tag) (owner : State → Handled) (h : s.cpi.recovery ≠ none) :
    s.serve code tag owner = s.notReady.settle := by
  have h' : s.cpi.recovery.isSome = true := Option.isSome_iff_ne_none.mpr h
  simp only [State.serve, State.exchange, h', if_true]

/-- A request keeps the commands waiting where its owner does. -/
theorem State.serve_pending {s : State} {code : Byte} {tag : Tag} {owner : State → Handled}
    (h : (owner s.deliver).1.pending = s.pending) : (s.serve code tag owner).pending = s.pending := by
  unfold State.serve State.exchange
  split
  · rfl
  · exact h

/-- An event keeps the commands waiting where its effect does. -/
theorem State.event_pending {s : State} {act : State → State} (h : (act s).pending = s.pending) :
    (s.event act).pending = s.pending := h

/-- An effect taken where the records wait for it, and nothing otherwise. -/
theorem State.when_keeps {β : Type} (p : State → β) {s : State} {g : Bool} {act : State → State} (h : p (act s) = p s) :
    p (s.when g act) = p s := by
  unfold State.when
  split
  · exact h
  · rfl

end Sys2Proof.Machine
end

