-- ==== Sys2Proof/Laws/Settle.lean ====
section
/-! SUPPORT. What the end of a command can do: the condition faults follow their conditions, and each link takes up one piece of
work; every other field stays. -/

namespace Sys2Proof.Machine

/-! ## Causes and faults -/

theorem Cause.bit_getLsbD (c d : Cause) : c.bit.getLsbD d.position = (c == d) := by cases c <;> cases d <;> rfl

theorem FaultName.bit_getLsbD (f g : FaultName) : f.bit.getLsbD g.position = (f == g) := by cases f <;> cases g <;> rfl

/-- A raised cause is in the set, and every other stays as it was. -/
theorem Tau.raise_hasCause (t : Tau) (c d : Cause) : (t.raise c).hasCause d = (t.hasCause d || c == d) := by
  simp [Tau.raise, Tau.hasCause, Cause.bit_getLsbD]

@[simp] theorem State.raise_hasCause (s : State) (c d : Cause) :
    (s.raise c).tau.hasCause d = (s.tau.hasCause d || c == d) := Tau.raise_hasCause s.tau c d

theorem Tau.enter_hasFault (t : Tau) (f g : FaultName) : (t.enter f).hasFault g = (t.hasFault g || f == g) := by
  unfold Tau.enter
  split
  · rename_i h
    by_cases e : f = g
    · subst e; simp [h]
    · simp [e]
  · simp [Tau.hasFault, Tau.raise, FaultName.bit_getLsbD]

theorem FaultName.position_lt (f : FaultName) : f.position < 8 := by cases f <;> decide

theorem Tau.leave_hasFault (t : Tau) (f g : FaultName) : (t.leave f).hasFault g = (t.hasFault g && f != g) := by
  have h := g.position_lt
  have e : f.bit[g.position]'h = (f == g) := by rw [← BitVec.getLsbD_eq_getElem h]; exact f.bit_getLsbD g
  simp [Tau.leave, Tau.hasFault, h, e]
  rfl

theorem Tau.follow_hasFault (t : Tau) (f g : FaultName) (b : Bool) :
    (t.follow f b).hasFault g = if f = g then b else t.hasFault g := by
  unfold Tau.follow
  split
  · rw [Tau.enter_hasFault]
    by_cases e : f = g
    · simp_all
    · simp [e]
  · rw [Tau.leave_hasFault]
    by_cases e : f = g
    · simp_all
    · simp [e]

/-- After following, every condition fault is in the set exactly while its condition is present; the event faults stay. -/
theorem Tau.followAll_hasFault (t : Tau) (p : FaultName → Bool) (g : FaultName) :
    (t.followAll p).hasFault g = if g ∈ conditionFaults then p g else t.hasFault g := by
  cases g <;> simp [Tau.followAll, conditionFaults, Tau.follow_hasFault]

/-- What entering or removing a fault keeps: every field but the fault set and the cause set. -/
theorem Tau.follow_keeps {β : Type} (p : Tau → β) (h : ∀ (t : Tau) (c : BitVec 17) (f : BitVec 8),
    p { t with causes := c, faults := f } = p t) (t : Tau) (f : FaultName) (b : Bool) : p (t.follow f b) = p t := by
  unfold Tau.follow
  split
  · unfold Tau.enter
    split
    · rfl
    · exact h t _ _
  · exact h t _ _

theorem Tau.followAll_keeps {β : Type} (p : Tau → β) (h : ∀ (t : Tau) (c : BitVec 17) (f : BitVec 8),
    p { t with causes := c, faults := f } = p t) (t : Tau) (g : FaultName → Bool) : p (t.followAll g) = p t := by
  simp only [Tau.followAll, conditionFaults, List.foldl_cons, List.foldl_nil, Tau.follow_keeps p h]

theorem Tau.follow_hasCause (t : Tau) (f : FaultName) (b : Bool) (c : Cause) (hc : c ≠ .faultSet) :
    (t.follow f b).hasCause c = t.hasCause c := by
  unfold Tau.follow
  split
  · unfold Tau.enter
    split
    · rfl
    · rw [Tau.raise_hasCause]
      have : (Cause.faultSet == c) = false := by cases c <;> first | rfl | exact absurd rfl hc
      simp [this, Tau.hasCause]
  · rfl

theorem Tau.followAll_hasCause (t : Tau) (g : FaultName → Bool) (c : Cause) (hc : c ≠ .faultSet) :
    (t.followAll g).hasCause c = t.hasCause c := by
  simp only [Tau.followAll, conditionFaults, List.foldl_cons, List.foldl_nil, Tau.follow_hasCause _ _ _ _ hc]

namespace State

@[simp] theorem settle_tau_clock (s : State) : s.settle.tau.clock = s.tau.clock :=
  Tau.followAll_keeps Tau.clock (by intros; rfl) _ _
@[simp] theorem settle_tau_internal (s : State) : s.settle.tau.internal = s.tau.internal :=
  Tau.followAll_keeps Tau.internal (by intros; rfl) _ _
@[simp] theorem settle_tau_watch (s : State) : s.settle.tau.watch = s.tau.watch :=
  Tau.followAll_keeps Tau.watch (by intros; rfl) _ _
@[simp] theorem settle_tau_nextInternal (s : State) : s.settle.tau.nextInternal = s.tau.nextInternal :=
  Tau.followAll_keeps Tau.nextInternal (by intros; rfl) _ _
@[simp] theorem settle_tau_enables (s : State) : s.settle.tau.enables = s.tau.enables :=
  Tau.followAll_keeps Tau.enables (by intros; rfl) _ _
@[simp] theorem settle_tau_pulses (s : State) : s.settle.tau.pulses = s.tau.pulses :=
  Tau.followAll_keeps Tau.pulses (by intros; rfl) _ _
@[simp] theorem settle_tau_now (s : State) : s.settle.tau.now = s.tau.now :=
  Tau.followAll_keeps Tau.now (by intros; rfl) _ _

theorem settle_hasCause (s : State) (c : Cause) (hc : c ≠ .faultSet) : s.settle.tau.hasCause c = s.tau.hasCause c :=
  Tau.followAll_hasCause _ _ _ hc

/-- After every command each condition fault is in the fault set exactly while its condition is present. -/
theorem settle_hasFault (s : State) (f : FaultName) (hf : f ∈ conditionFaults) :
    s.settle.tau.hasFault f = conditionPresent s.settle.rte s.settle.bbc s.settle.rks s.tau.internal f := by
  have := Tau.followAll_hasFault s.tau (conditionPresent s.settle.rte s.settle.bbc s.settle.rks s.tau.internal) f
  rw [if_pos hf] at this
  exact this

end State

/-! ## The matrix link -/

theorem Rte.route_setRoute (r : Rte) (d e : Nat) (x : Route) : (r.setRoute d x).route e = if e = d then x else r.route e :=
  Table.get_put _ _ _ _ _

/-- What the matrix link's taking up of work keeps. -/
theorem Rte.pump_keeps {β : Type} (p : Rte → β) (h : ∀ (r : Rte) (t : Table Route) (o : Option SetCommand) (n : BitVec 2)
    (l : List Byte), p { r with routes := t, outstanding := o, nextTag := n, sent := l } = p r) (r : Rte) (now : Nat) :
    p (r.pump now) = p r := by
  unfold Rte.pump
  split
  · split
    · rfl
    · exact h r _ _ _ _
  · rfl

theorem Rte.pump_route (r : Rte) (now d : Nat) : { (r.pump now).route d with attempts := (r.route d).attempts } = r.route d := by
  unfold Rte.pump
  split
  · split
    · rfl
    · rename_i e rest he
      show { ((r.setRoute e { r.route e with attempts := 1 }).route d) with attempts := (r.route d).attempts } = r.route d
      rw [Rte.route_setRoute]
      split
      · subst_vars; rfl
      · rfl
  · rfl

/-! ## The booth bus -/

theorem Bbc.link_setLink (b : Bbc) (a c : Nat) (x : Link) : (b.setLink a x).link c = if c = a then x else b.link c :=
  Table.get_put _ _ _ _ _

@[simp] theorem Bbc.link_setSegment (b : Bbc) (g a : Nat) (x : Segment) : (b.setSegment g x).link a = b.link a := by
  unfold Bbc.setSegment; split <;> rfl

/-- What a segment's next transaction does to a link record: a poll offers the head of its list. -/
theorem Bbc.pumpSegment_link (b : Bbc) (now g a : Nat) :
    { (b.pumpSegment now g).link a with offered := (b.link a).offered } = b.link a := by
  have hpoll : ∀ c w, { (b.sendPoll g c w now).link a with offered := (b.link a).offered } = b.link a := by
    intro c w
    unfold Bbc.sendPoll
    dsimp only
    rw [Bbc.link_setSegment, Bbc.link_setLink]
    split
    · subst_vars; rfl
    · rfl
  have hprobe : ∀ c, (b.sendProbe g c now).link a = b.link a := by
    intro c; unfold Bbc.sendProbe; rw [Bbc.link_setSegment]
  unfold Bbc.pumpSegment
  split
  · rfl
  · dsimp only
    cases hp : b.nextPoll g <;> cases hq : b.nextProbe g <;> split <;> simp [Option.or, hpoll, hprobe]

theorem Bbc.pump_link (b : Bbc) (now a : Nat) : { (b.pump now).link a with offered := (b.link a).offered } = b.link a := by
  have h0 := Bbc.pumpSegment_link b now 0 a
  have h1 := Bbc.pumpSegment_link (b.pumpSegment now 0) now 1 a
  unfold Bbc.pump
  rw [← h0, ← h1]

/-! ## The rack line -/

theorem Rks.rack_setRack (r : Rks) (k j : Nat) (x : Rack) : (r.setRack k x).rack j = if j = k then x else r.rack j :=
  Table.get_put _ _ _ _ _

/-- What the rack line's taking up of work keeps of the block. -/
theorem Rks.pump_keeps {β : Type} (p : Rks → β) (h : ∀ (r : Rks) (t : Table Rack) (l : Option Exchange) (b : List Byte),
    p { r with racks := t, line := l, sent := b } = p r) (r : Rks) (now : Nat) : p (r.pump now) = p r := by
  have hr : ∀ (r : Rks) k, p (r.sendResult k now) = p r := by
    intro r k; unfold Rks.sendResult; dsimp only; split
    · exact h r _ _ _
    · rfl
  have hs : ∀ (r : Rks) k, p (r.sendScan k now) = p r := by intro r k; exact h r _ _ _
  have ht : ∀ (r : Rks) k, p (r.sendStart k now) = p r := by
    intro r k; unfold Rks.sendStart; dsimp only; split
    · rfl
    · exact h r _ _ _
  have h0 : p { r with racks := r.racks.map Rack.initial fun _ x => x.noteReady now } = p r := h r _ r.line r.sent
  unfold Rks.pump
  dsimp only
  split
  · exact h0
  · split
    · rw [hr]; exact h0
    · split
      · rw [hs]; exact h0
      · split
        · rw [ht]; exact h0
        · exact h0

/-- What the rack line's taking up of work keeps of a rack. -/
theorem Rks.pump_rack {β : Type} (p : Rack → β) (h : ∀ (x : Rack) (n : Due) (l : Option Nat) (a : Option Attempt)
    (s : Option Nat), p { x with nextScan := n, lastScan := l, attempt := a, startReady := s } = p x) (r : Rks) (now k : Nat) :
    p ((r.pump now).rack k) = p (r.rack k) := by
  have hr : ∀ (r : Rks) j, p ((r.sendResult j now).rack k) = p (r.rack k) := by
    intro r j; unfold Rks.sendResult; dsimp only; split
    · rename_i a b c d e
      show p ((r.setRack j _).rack k) = _
      rw [Rks.rack_setRack]; split
      · subst_vars
        exact h (r.rack j) (r.rack j).nextScan (r.rack j).lastScan _ (r.rack j).startReady
      · rfl
    · rfl
  have hs : ∀ (r : Rks) j, p ((r.sendScan j now).rack k) = p (r.rack k) := by
    intro r j
    show p ((r.setRack j _).rack k) = _
    rw [Rks.rack_setRack]; split
    · subst_vars
      exact h (r.rack j) _ _ (r.rack j).attempt (r.rack j).startReady
    · rfl
  have ht : ∀ (r : Rks) j, p ((r.sendStart j now).rack k) = p (r.rack k) := by
    intro r j; unfold Rks.sendStart; dsimp only; split
    · rfl
    · show p ((r.setRack j _).rack k) = _
      rw [Rks.rack_setRack]; split
      · subst_vars
        exact h (r.rack j) (r.rack j).nextScan (r.rack j).lastScan _ _
      · rfl
  have h0 : p ((({ r with racks := r.racks.map Rack.initial fun _ x => x.noteReady now } : Rks)).rack k) = p (r.rack k) := by
    show p ((r.racks.map Rack.initial fun _ x => x.noteReady now).get Rack.initial k) = _
    rw [Table.get_map _ _ _ _ rfl]
    exact h (r.rack k) (r.rack k).nextScan (r.rack k).lastScan (r.rack k).attempt _
  unfold Rks.pump
  dsimp only
  split
  · exact h0
  · split
    · rw [hr]; exact h0
    · split
      · rw [hs]; exact h0
      · split
        · rw [ht]; exact h0
        · exact h0

/-! ## The readers after a command -/

namespace State

theorem settle_route (s : State) (d : Nat) : { s.settle.route d with attempts := (s.route d).attempts } = s.route d :=
  Rte.pump_route s.rte s.tau.now d

theorem settle_link (s : State) (a : Nat) : { s.settle.link a with offered := (s.link a).offered } = s.link a := by
  show { s.settle.bbc.link a with offered := (s.bbc.link a).offered } = s.bbc.link a
  rw [settle_bbc]
  split
  · rfl
  · exact Bbc.pump_link s.bbc s.tau.now a

/-- What settling keeps of the Rack Scanner. -/
theorem settle_rks_keeps {β : Type} (p : Rks → β) (h : ∀ (r : Rks) (t : Table Rack) (l : Option Exchange) (b : List Byte),
    p { r with racks := t, line := l, sent := b } = p r) (s : State) : p s.settle.rks = p s.rks := by
  rw [settle_rks]
  split
  · rfl
  · exact Rks.pump_keeps p h s.rks s.tau.now

@[simp] theorem settle_slot (s : State) (k : Nat) : s.settle.slot k = s.slot k :=
  congrArg (fun t => t.get Slot.initial k) (settle_rks_keeps Rks.slots (by intros; rfl) s)

@[simp] theorem settle_rks_night (s : State) : s.settle.rks.night = s.rks.night :=
  settle_rks_keeps Rks.night (by intros; rfl) s

@[simp] theorem settle_rks_slots (s : State) : s.settle.rks.slots = s.rks.slots :=
  settle_rks_keeps Rks.slots (by intros; rfl) s

@[simp] theorem settle_rks_pollCounter (s : State) : s.settle.rks.pollCounter = s.rks.pollCounter :=
  settle_rks_keeps Rks.pollCounter (by intros; rfl) s

@[simp] theorem settle_rks_pollInterval (s : State) : s.settle.rks.pollInterval = s.rks.pollInterval :=
  settle_rks_keeps Rks.pollInterval (by intros; rfl) s

@[simp] theorem settle_hall (s : State) (h : Nat) : s.settle.hall h = s.hall h := rfl
@[simp] theorem settle_floor (s : State) (a : Nat) : s.settle.floor a = s.floor a := rfl
@[simp] theorem settle_booth (s : State) (b : Nat) : s.settle.booth b = s.booth b := rfl
@[simp] theorem settle_token (s : State) (k : Nat) : s.settle.token k = s.token k := rfl
@[simp] theorem settle_receiver (s : State) (r : Nat) : s.settle.receiver r = s.receiver r := rfl
@[simp] theorem settle_ticket (s : State) (t : Nat) : s.settle.ticket t = s.ticket t := rfl
@[simp] theorem settle_queue (s : State) (d : Nat) : s.settle.queue d = s.queue d := rfl
@[simp] theorem settle_account (s : State) (a : Nat) : s.settle.account a = s.account a := rfl
@[simp] theorem settle_label (s : State) (l : Nat) : s.settle.label l = s.label l := rfl

/-! ## The readers after a writer -/

theorem hall_setHall (s : State) (h k : Nat) (x : Hall) : (s.setHall h x).hall k = if k = h then x else s.hall k :=
  Table.get_put _ _ _ _ _
theorem route_setRoute (s : State) (d e : Nat) (x : Route) : (s.setRoute d x).route e = if e = d then x else s.route e :=
  Table.get_put _ _ _ _ _
theorem link_setLink (s : State) (a c : Nat) (x : Link) : (s.setLink a x).link c = if c = a then x else s.link c :=
  Table.get_put _ _ _ _ _
theorem floor_setFloor (s : State) (a c : Nat) (x : FloorRecord) : (s.setFloor a x).floor c = if c = a then x else s.floor c :=
  Table.get_put _ _ _ _ _
theorem booth_setBooth (s : State) (b c : Nat) (x : BoothFloor) : (s.setBooth b x).booth c = if c = b then x else s.booth c :=
  Table.get_put _ _ _ _ _
theorem token_setToken (s : State) (k j : Nat) (x : ChannelToken) : (s.setToken k x).token j = if j = k then x else s.token j :=
  Table.get_put _ _ _ _ _
theorem rack_setRack (s : State) (k j : Nat) (x : Rack) : (s.setRack k x).rack j = if j = k then x else s.rack j :=
  Table.get_put _ _ _ _ _
theorem slot_setSlot (s : State) (k j : Nat) (x : Slot) : (s.setSlot k x).slot j = if j = k then x else s.slot j :=
  Table.get_put _ _ _ _ _
theorem receiver_setReceiver (s : State) (r k : Nat) (x : Receiver) :
    (s.setReceiver r x).receiver k = if k = r then x else s.receiver k := Table.get_put _ _ _ _ _
theorem queue_setQueue (s : State) (d e : Nat) (l : List Nat) : (s.setQueue d l).queue e = if e = d then l else s.queue e :=
  Table.get_put _ _ _ _ _
theorem ticket_setTicket (s : State) (t u : Nat) (x : Ticket) :
    (s.setTicket t x).ticket u = if u = t then some x else s.ticket u := Table.lookup_insert _ _ _ _
theorem account_setAccount (s : State) (a c : Nat) (x : Account) :
    (s.setAccount a x).account c = if c = a then x else s.account c := Table.get_put _ _ _ _ _
theorem tariff_setTariff (s : State) (t u : Nat) (x : Tariff) : (s.setTariff t x).tariff u = if u = t then x else s.tariff u :=
  Table.get_put _ _ _ _ _

end State

end Sys2Proof.Machine
end

