-- ==== Sys2Proof/Laws/Rack.lean ====
section
/-! SUPPORT. What the rack line takes next, and where a contact job goes in its rack's list (R114, R122). -/

namespace Sys2Proof.Machine

/-- One rack met by the search of `earliest`. -/
def earlier (moment : Nat → Option Nat) (best : Option (Nat × Nat)) (k : Nat) : Option (Nat × Nat) :=
  match best, moment k with
  | b, none => b
  | none, some m => some (k, m)
  | some (j, n), some m => if m < n then some (k, m) else some (j, n)

/-- What the search holds after the racks below `n`. -/
theorem earlier_range (moment : Nat → Option Nat) (n : Nat) :
    match (List.range n).foldl (earlier moment) none with
    | none => ∀ j < n, moment j = none
    | some (k, m) => k < n ∧ moment k = some m ∧ ∀ j < n, ∀ p, moment j = some p → m < p ∨ (m = p ∧ k ≤ j) := by
  induction n with
  | zero => simp
  | succ n ih =>
    rw [List.range_succ, List.foldl_append, List.foldl_cons, List.foldl_nil]
    cases hb : (List.range n).foldl (earlier moment) none with
    | none =>
      rw [hb] at ih
      cases hm : moment n with
      | none =>
        simp only [earlier, hm]
        intro j hj
        rcases Nat.lt_succ_iff_lt_or_eq.mp hj with h | rfl
        · exact ih j h
        · exact hm
      | some m =>
        simp only [earlier, hm]
        refine ⟨Nat.lt_succ_self n, trivial, fun j hj p hp => ?_⟩
        rcases Nat.lt_succ_iff_lt_or_eq.mp hj with h | rfl
        · rw [ih j h] at hp; cases hp
        · rw [hm] at hp; cases hp; exact .inr ⟨rfl, Nat.le_refl _⟩
    | some x =>
      obtain ⟨k, m⟩ := x
      rw [hb] at ih
      obtain ⟨hk, hmk, hmin⟩ := ih
      cases hm : moment n with
      | none =>
        simp only [earlier, hm]
        refine ⟨Nat.lt_succ_of_lt hk, hmk, fun j hj p hp => ?_⟩
        rcases Nat.lt_succ_iff_lt_or_eq.mp hj with h | rfl
        · exact hmin j h p hp
        · rw [hm] at hp; cases hp
      | some q =>
        simp only [earlier, hm]
        by_cases hq : q < m
        · rw [if_pos hq]
          refine ⟨Nat.lt_succ_self n, hm, fun j hj p hp => ?_⟩
          rcases Nat.lt_succ_iff_lt_or_eq.mp hj with h | rfl
          · have := hmin j h p hp; omega
          · rw [hm] at hp; cases hp; exact .inr ⟨rfl, Nat.le_refl _⟩
        · rw [if_neg hq]
          refine ⟨Nat.lt_succ_of_lt hk, hmk, fun j hj p hp => ?_⟩
          rcases Nat.lt_succ_iff_lt_or_eq.mp hj with h | rfl
          · exact hmin j h p hp
          · rw [hm] at hp; cases hp; omega

/-- No rack is found exactly where none has a moment. -/
theorem earliest_eq_none {moment : Nat → Option Nat} : earliest moment = none ↔ ∀ k < 16, moment k = none := by
  have h := earlier_range moment 16
  have e : earliest moment = ((List.range 16).foldl (earlier moment) none).map Prod.fst := rfl
  rw [e]
  cases hb : (List.range 16).foldl (earlier moment) none with
  | none => rw [hb] at h; exact ⟨fun _ => h, fun _ => rfl⟩
  | some x =>
    rw [hb] at h
    obtain ⟨h1, h2, _⟩ := h
    refine ⟨fun h' => (nomatch h'), fun h' => ?_⟩
    rw [h' _ h1] at h2
    cases h2

/-- The rack found has the least moment, and is the lowest of those that have it. -/
theorem earliest_eq_some {moment : Nat → Option Nat} {k m : Nat} (hk : k < 16) (hm : moment k = some m)
    (hmin : ∀ j < 16, ∀ n, moment j = some n → m < n ∨ (m = n ∧ k ≤ j)) : earliest moment = some k := by
  have h := earlier_range moment 16
  have e : earliest moment = ((List.range 16).foldl (earlier moment) none).map Prod.fst := rfl
  rw [e]
  cases hb : (List.range 16).foldl (earlier moment) none with
  | none => rw [hb] at h; rw [h k hk] at hm; cases hm
  | some x =>
    obtain ⟨j, n⟩ := x
    rw [hb] at h
    obtain ⟨h1, h2, h3⟩ := h
    have a := hmin j h1 n h2
    have b := h3 k hk m hm
    have : j = k := by omega
    rw [this]
    rfl

/-- A RESULT has fallen due: an attempt is open for a listed job, and the moment it asks again has come. -/
theorem Rack.resultFell_eq_some {x : Rack} {m : Nat} : x.resultFell = some m ↔
    ∃ a, x.attempt = some a ∧ a.resultDue = some (.fallen m) ∧ x.jobs ≠ [] := by
  unfold Rack.resultFell
  cases hj : x.jobs with
  | nil => simp
  | cons j rest =>
    cases ha : x.attempt with
    | none => simp
    | some a =>
      cases hd : a.resultDue with
      | none => simp [hd]
      | some d => cases d <;> simp [hd, Due.fellAt]

theorem Due.fellAt_eq_some {d : Due} {m : Nat} : d.fellAt = some m ↔ d = .fallen m := by
  cases d <;> simp [Due.fellAt]

/-- Every rack as the pump leaves it before it sends. -/
theorem rack_noteReady (r : Rks) (now k : Nat) :
    ({ r with racks := r.racks.map Rack.initial fun _ x => x.noteReady now } : Rks).rack k = (r.rack k).noteReady now :=
  Table.get_map r.racks (fun _ x => x.noteReady now) Rack.initial k rfl

/-- What a free line takes: the first RESULT fallen due, else the first SCAN fallen due, else the first START that is ready (R114). -/
theorem Rks.pump_free {r : Rks} (now : Nat) (h : r.line = none) :
    r.pump now =
      let q : Rks := { r with racks := r.racks.map Rack.initial fun _ x => x.noteReady now }
      match earliest fun k => (r.rack k).resultFell with
      | some k => q.sendResult k now
      | none => match earliest fun k => (r.rack k).nextScan.fellAt with
        | some k => q.sendScan k now
        | none => match earliest fun k => ((r.rack k).noteReady now).startReady with
          | some k => q.sendStart k now
          | none => q := by
  have h1 : ∀ k, ((r.rack k).noteReady now).resultFell = (r.rack k).resultFell := fun _ => rfl
  have h2 : ∀ k, ((r.rack k).noteReady now).nextScan = (r.rack k).nextScan := fun _ => rfl
  unfold Rks.pump
  simp only [rack_noteReady, h1, h2]
  refine (if_neg (by rw [h]; decide)).trans ?_
  generalize (earliest fun k => (r.rack k).resultFell) = first
  generalize (earliest fun k => (r.rack k).nextScan.fellAt) = second
  generalize (earliest fun k => ((r.rack k).noteReady now).startReady) = third
  cases first <;> cases second <;> cases third <;> rfl

/-- An issue job joins behind the last issue job and ahead of the IDENTIFY jobs behind it (R122). -/
theorem insertIssue_append (j : Job) (before identifies : List Job) (hi : ∀ i ∈ identifies, i.kind = .identify)
    (hb : ∀ i, before.getLast? = some i → i.kind ≠ .identify) :
    insertIssue j (before ++ identifies) = before ++ j :: identifies := by
  have h : ((before ++ identifies).reverse.takeWhile fun k => !k.kind.isIssue) = identifies.reverse := by
    rw [List.reverse_append, List.takeWhile_append_of_pos (by
      intro i h
      rw [hi i (List.mem_reverse.mp h)]
      rfl)]
    have : (before.reverse.takeWhile fun k : Job => !k.kind.isIssue) = [] := by
      cases hr : before.reverse with
      | nil => rfl
      | cons i rest =>
        have hl : before.getLast? = some i := by rw [List.getLast?_eq_head?_reverse, hr]; rfl
        have hk := hb i hl
        have : i.kind.isIssue = true := by cases e : i.kind <;> first | rfl | exact absurd e hk
        rw [List.takeWhile_cons, this]
        rfl
    rw [this, List.append_nil]
  have h2 : (before ++ identifies).take ((before ++ identifies).length - identifies.length) = before := by
    rw [List.length_append, Nat.add_sub_cancel, List.take_left]
  unfold insertIssue
  simp only [h, List.reverse_reverse, h2]

end Sys2Proof.Machine
end

