-- ==== Sys2Proof/Tests/Slice0.lean ====
section
/-! SUPPORT. Named tests: an ill-formed term for each check of WellFormed, frames written out from the layouts of 9.5, one step
of commands of every family on a small state, and for every statement with hypotheses a state and operands that meet them. -/

namespace Sys2Proof.Tests

open Sys2Proof Sys2Proof.Machine Sys2Proof.Safety

set_option Elab.async false

/-! ## Small states -/

/-- The machine with its reset recovery behind it. -/
def base : State := { State.reset with cpi := { State.reset.cpi with recovery := none } }

/-- The state a command leaves. -/
def after (c : Instr) (s : State) : State :=
  match exec c s with
  | .next t => t
  | _ => s

/-- A console's poll is in progress on segment 0; it carried the head of the directive list where `carried`. -/
def polled (a : Nat) (carried : Bool) (s : State) : State :=
  { s with bbc := s.bbc.setSegment 0 { s.bbc.segment 0 with
      transaction := some { console := a, probe := false, carried := carried, started := 0 } } }

/-- A console's probe is in progress on segment 0. -/
def probed (a : Nat) (s : State) : State :=
  { s with bbc := s.bbc.setSegment 0 { s.bbc.segment 0 with
      transaction := some { console := a, probe := true, carried := false, started := 0 }, afterPoll := false } }

/-- A command is outstanding on the matrix link. -/
def outstanding (c : SetCommand) (s : State) : State := { s with rte := { s.rte with outstanding := some c } }

/-- The last destination's command: SILENCE to W31, sent once. -/
def lastSet : SetCommand := { destination := 223, source := .silence, tag := 2, sends := 1, deadline := 20 }

/-- The link is DOWN. -/
def down (s : State) : State := { s with rte := { s.rte with up := false } }

/-- Language 0 is DEFINED, with the label EN. -/
def spoken : State := { base with pls := { base.pls with languages := base.pls.languages.insert 0 [69, 78] } }

/-- Every language slot is DEFINED, none with the label EN. -/
def fullTable : State :=
  { base with pls := { base.pls with
      languages := (List.range 48).foldl (fun t l => t.insert l [BitVec.ofNat 8 (65 + l)]) base.pls.languages } }

/-- The hall H0, LIVE, carries language 0 on channel 1, and booth 0 feeds it with direction A. -/
def carried : State :=
  let p := (spoken.pls.active.setHall 0 ((spoken.pls.active.hall 0).setEntry 1
    { language := some 0, fallback := .floor, interlock := .firstHolds })).setBooth 0
    { home := 0, a := some 0, b := none, relay := .floor }
  ({ spoken with pls := { spoken.pls with draft := p, active := p } }).setHall 0 { Hall.initial with state := .live }

/-! ## Witnesses: a state and operands that meet the hypotheses of each clause, statement by statement -/

theorem test_meets_StepRunsTheFrontCommand :
    ({ base with pending := [.alert, .present] } : State).pending = .alert :: [.present] ∧ base.pending = [] := by decide

theorem test_meets_ConditionFaultsFollow :
    FaultsFollowConditions (down { base with tau := { base.tau with faults := 5 } }) ∧
    step { down { base with tau := { base.tau with faults := 5 } } with pending := [.present] } =
      .next (after .present (down { base with tau := { base.tau with faults := 5 } })) :=
  ⟨by intro f hf; revert f; decide +kernel, rfl⟩

theorem test_meets_NothingReadyWaits : exec .alert base = .next (after .alert base) := rfl

theorem test_meets_RoutesStayInOrder :
    RoutesInOrder { base with pending := [.alert] } ∧
    step { base with pending := [.alert] } = .next (after .alert base) := by
  refine ⟨⟨⟨by decide +kernel, by decide +kernel, fun d (h : RouteStatus.pending = .stuck) => ?_, by decide +kernel, fun c h => ?_⟩,
    ⟨by decide +kernel, by decide +kernel, by decide +kernel⟩⟩, rfl⟩ <;> cases h

theorem test_meets_RequestFramesDecode :
    (Instr.resetLinks 0xFFFF 0).request = some ⟨0x96, 0xFFFF, [0]⟩ ∧ (Instr.resetLinks 0xFFFF 0).wellFormed = true ∧
    (Instr.resetAll 0).request = some ⟨0x96, 0, [1]⟩ ∧ (Instr.resetAll 0).wellFormed = true ∧
    decodeExchange (Request.frame ⟨0x96, 0xFFFF, [0]⟩) = some (.resetLinks 0xFFFF 0) := by decide +kernel

theorem test_meets_RefusalsChangeNothing :
    Ready base ∧ exec (.issue 7 512 0 0 0) base = .next (after (.issue 7 512 0 0 0) base) ∧
    isRefusal (after (.issue 7 512 0 0 0) base).cpi.held.result ∧
    exec (.selectHall 7 6) base = .next (after (.selectHall 7 6) base) ∧
    isRefusal (after (.selectHall 7 6) base).cpi.held.result :=
  ⟨rfl, rfl, by unfold isRefusal; decide +kernel, rfl, by unfold isRefusal; decide +kernel⟩

/-- A frame, then the line idle for 21 bit times, then the start of another character: the frame is what is read; a reply with a false
check is a malformed reply. -/
theorem test_meets_OperandForms :
    ([true] : List Bool).length < 8 ∧ (20 < 21) ∧
    unbrokenRun (readChars 0 (lineBits [0x5F, 0xB1] ++ List.replicate 21 true ++ [false])) = [0x5F, 0xB1] ∧
    unbrokenRun (readChars 0 (lineBits [0x5F, 0xB1, 0, 0])) ≠ [] ∧
    (takeFrame replyLength (unbrokenRun (readChars 0 (lineBits [0x5F, 0xB1, 0, 0])))).bind decodeReply = none ∧
    labelField 0x41395A30 = some [65, 57, 90, 48] ∧ nameField 0x412D3900 0 = some [65, 45, 57] ∧
    ({ selN := true, sck := false, din := false, resetN := false } : PortLevels).resetN = false ∧
    ({ selN := true, sck := true, bits := none, shown := 0 } : PortReader).selN = true ∧
    ({ selN := false, sck := false, bits := some [true], shown := 0 } : PortReader).bits = some [true] := by decide +kernel

theorem test_meets_ResetAndRecovery :
    State.reset.cpi.recovery = some { code := 0, tag := 0, startsWatch := true, ends := 2 } ∧
    (after (.resetLinks 9 0) base).cpi.recovery = some { code := 0x96, tag := 9, startsWatch := false, ends := 2 } := by
  decide +kernel

theorem test_meets_RecoveryDiscardsExchanges :
    (Instr.nop 3).request = some ⟨0, 3, []⟩ ∧ State.reset.cpi.recovery ≠ none ∧ ([0x01] : List Byte) ≠ [] ∧
    frameReason [0x01] ≠ none := by decide +kernel

theorem test_meets_FrameErrorsAreAnswered :
    Ready base ∧ frameReason [0x01, 0, 0] = some .ragged ∧ frameReason [0x01, 2, 0, 0, 0, 0, 0, 0] = some .short ∧
    frameReason [0x7F, 0, 0, 0] = some .code ∧ frameReason [0x01, 0, 0, 0, 0, 0, 0, 0] = some .length ∧
    frameReason [0x01, 0, 0, 0] = some .length ∧ frameReason [0x01, 1, 0, 0, 0, 0, 0, 0] = none :=
  ⟨rfl, by decide +kernel⟩

theorem test_meets_NopRepeatsTheResponse :
    Ready base ∧ State.reset.cpi.recovery = some { code := 0, tag := 0, startsWatch := true, ends := 2 } ∧
    exec .resetRecoveryEnd State.reset = .next (after .resetRecoveryEnd State.reset) ∧
    exec (.nop 5) (after .resetRecoveryEnd State.reset) = .next (after (.nop 5) (after .resetRecoveryEnd State.reset)) ∧
    exec (.frameError [0x01]) base = .next (after (.frameError [0x01]) base) ∧
    exec (.nop 5) (after (.frameError [0x01]) base) = .next (after (.nop 5) (after (.frameError [0x01]) base)) :=
  ⟨rfl, rfl, rfl, rfl, rfl, rfl⟩

theorem test_meets_WindowAndCursor :
    Ready base ∧ (5 : Word).toNat < 6 ∧ 6 ≤ (6 : Word).toNat ∧
    tableField 6 = some .tickets ∧ (7 : Word).toNat < ListTable.tickets.size ∧ ListTable.tickets.size ≤ (8 : Word).toNat ∧
    tableField 8 = none ∧ base.cpi.cursor = none ∧
    -- the one language listed is found from position 0 by the filter of DEFINED slots
    (∃ p, spoken.recordState .languages 0 = some p ∧ inFilter 2 p = true) ∧
    -- and from position 1 nothing is
    (∀ j < ListTable.languages.size, 1 ≤ j → spoken.recordState .languages j = some 0) ∧ inFilter 2 0 = false := by
  refine ⟨rfl, ?_, ?_, ?_, ?_, ?_, ?_, ?_, ⟨1, ?_⟩, ?_, ?_⟩ <;> decide +kernel

theorem test_meets_LanguageTable :
    Ready base ∧ labelField 0 = none ∧ labelField 0x454E0000 = some [69, 78] ∧ (∃ l < 48, spoken.label l = some [69, 78]) ∧
    (∀ l < 48, fullTable.label l ≠ some [69, 78]) ∧ (∀ l < 48, fullTable.label l ≠ none) ∧
    (∀ k < 48, base.label k ≠ some [69, 78]) ∧ base.label 0 = none ∧
    (0 : Word).toNat < 48 ∧ spoken.label 0 ≠ none ∧ spoken.languageHolder 0 = none ∧
    carried.label 0 ≠ none ∧ carried.languageHolder 0 = some 0 := by
  refine ⟨rfl, ?_⟩; decide +kernel

theorem test_meets_WidthIsSet :
    Ready base ∧ hallField base.cpi.window windowWord = some 0 ∧ hallField 0 5 = some 5 ∧ (32 : Word).toNat = 32 ∧
    hallField base.cpi.window 6 = none ∧ (9 : Word).toNat ≠ 8 := by
  refine ⟨rfl, ?_⟩; decide +kernel

theorem test_meets_ChannelIsSet :
    Ready base ∧ hallField 0 5 = some 5 ∧ 1 ≤ (1 : Word).toNat ∧ (31 : Word).toNat ≤ 31 ∧ optBelow 48 47 = some (some 47) ∧
    optBelow 48 0xFFFFFFFF = some none ∧ fallbackField 0xFFFFFFFD = some .silence ∧ interlockField 1 = some .lastTakes ∧
    31 < (32 : Word).toNat ∧ optBelow 48 48 = none ∧ fallbackField 48 = none ∧ interlockField 2 = none := by
  refine ⟨rfl, ?_⟩; decide +kernel

theorem test_meets_BoothPlanIsSet :
    Ready base ∧ (31 : Word).toNat < 32 ∧ (5 : Word).toNat < 6 ∧ optBelow 48 47 = some (some 47) ∧
    pickField 0xFFFFFFFE = some .floor ∧ 31 < (32 : Word).toNat ∧ 5 < (6 : Word).toNat ∧ pickField 48 = none := by
  refine ⟨rfl, ?_⟩; decide +kernel

theorem test_meets_DraftIsCleared : Ready base := rfl

theorem test_meets_PlanLinkAndFloorReads :
    Ready base ∧ onOff 1 = some true ∧ (5 : Word) ≠ noneWord ∧ hallField base.cpi.window 5 = some 5 ∧
    (31 : Word).toNat < 32 ∧ (223 : Word).toNat < 224 ∧ (1 : Word).toNat < 2 ∧ (95 : Word).toNat < 96 := by
  refine ⟨rfl, ?_⟩; decide +kernel

theorem test_meets_CommitIsTaken :
    Ready spoken ∧ spoken.commitCheck 0 = none ∧ carried.commitCheck 0 = none ∧
    (65536 : Word).toNat ≠ spoken.pls.draftVersion.toNat ∧
    (0 : Word).toNat = spoken.pls.draftVersion.toNat ∧
    ({ spoken.pls with operation := some { kind := .join, version := 0, hallsChanged := 0, stuck := 0, relayResets := 0,
                                           planCuts := 0 } } : Pls).operation ≠ none := by
  refine ⟨rfl, ?_⟩; decide +kernel

theorem test_meets_AcceptedPlansAreSound :
    Ready carried ∧ exec (.commitPlan 1 0) carried = .next (after (.commitPlan 1 0) carried) ∧
    (after (.commitPlan 1 0) carried).cpi.held.result = .accepted :=
  ⟨rfl, rfl, by decide +kernel⟩

/-- A commit whose last mark has gone. -/
def applying (marks : Nat) : State :=
  { base with pls := { base.pls with
      operation := some { kind := .commit, version := 1, hallsChanged := 1, stuck := 0, relayResets := 0, planCuts := 0 }
      markCount := marks } }

/-- Destination 0 with its desired source still SILENCE where the LIVE hall H0 desires its floor; what it was confirmed at, and a mark. -/
def stale (confirmed : Option Source) (mark : Bool) (status : RouteStatus) : State :=
  carried.setRoute 0 { Route.initial with confirmed := confirmed, mark := mark, status := status }

theorem test_meets_ApplyCompletes :
    (applying 0).pls.operation ≠ none ∧ (applying 0).pls.markCount = 0 ∧ (applying 1).pls.markCount ≠ 0 ∧
    base.pls.operation = none ∧
    -- the rows of the channel buses
    (base.hall 5).state = .quiet ∧ ((base.setHall 5 { Hall.initial with state := .tone }).hall 5).state = .tone ∧
    (carried.hall 0).state = .live ∧ (carried.pls.effectivePlan 0).languageAt 31 = none ∧
    (carried.pls.effectivePlan 0).languageAt 1 ≠ none ∧ carried.feeder 0 1 = none ∧
    ((carried.pls.effectivePlan 0).entry 1).fallback = .floor ∧
    ((carried.setHall 0 { Hall.initial with state := .floorAll }).hall 0).state = .floorAll ∧
    (carried.booth 0).pick = .floor ∧ (carried.pls.effectivePlan (carried.pls.boothHall 0)).channelOf 0 = some 1 ∧
    -- one destination of a notice
    base.desiredSource 223 = (base.route 223).desired ∧ (stale none false .stuck).desiredSource 0 ≠ .silence ∧
    ((stale none false .stuck).route 0).status = .stuck ∧
    ((stale (some (.floor 0)) false .pending).route 0).confirmed = some ((stale (some (.floor 0)) false .pending).desiredSource 0) ∧
    ((stale (some (.floor 0)) true .pending).route 0).mark = true ∧
    ((stale none false .pending).route 0).confirmed ≠ some ((stale none false .pending).desiredSource 0) := by decide +kernel

theorem test_meets_RelayDepthBound : 31 < 32 ∧ carried.pls.depthWithin carried.picks 2 31 = true := by decide +kernel

/-- The halls H0 and H1 are LIVE; H0 carries language 0 on channel 1, which booth 0 feeds; the pair is joined where asked. -/
def pair (joined : Bool) : State :=
  (carried.setHall 0 { Hall.initial with state := .live, joined := joined }).setHall 1 { Hall.initial with state := .live }

/-- In the LIVE hall H0 console 0 is ONLINE and LIVE on channel 1. -/
def talking : State :=
  (((carried.setLink 0 { Link.initial with state := .online }).setFloor 0 { FloorRecord.initial with mic := .live }).setBooth 0
    { BoothFloor.initial with holder := some 0 }).setToken (busOf 0 1) { ChannelToken.initial with holder := some 0 }

/-- Account 511 is OPEN, an organiser. -/
def organised : State := base.setAccount 511 { Account.initial with state := .opened, kind := .organiser }

/-- While console 0 is LIVE on channel 1, the DRAFT moves its language to channel 2, or takes it from its booth. -/
def redrafted (moved : Bool) : State :=
  let p := talking.pls.active
  { talking with pls := { talking.pls with
      draft := if moved
        then p.setHall 0 (((p.hall 0).setEntry 1 Entry.empty).setEntry 2
          { language := some 0, fallback := .floor, interlock := .firstHolds })
        else p.setBooth 0 { home := 0, a := none, b := none, relay := .floor } } }

theorem test_meets_CommitIsTaken_changes :
    Ready (redrafted true) ∧ Ready (redrafted false) ∧
    (redrafted true).commitCheck 0 = none ∧ (redrafted false).commitCheck 0 = none ∧
    (redrafted true).pls.joinedJunior 0 = false ∧ ((redrafted true).booth 0).holder = some 0 ∧
    ((redrafted true).booth 1).holder = none ∧
    BoothKept (redrafted true).pls { (redrafted true).pls with active := (redrafted true).pls.draft } 0 .a ∧
    ¬ BoothKept (redrafted false).pls { (redrafted false).pls with active := (redrafted false).pls.draft } 0 .a ∧
    -- language 0 comes from channel 1 to channel 2; channel 1 has none now
    ({ (redrafted true).pls with active := (redrafted true).pls.draft }.effectivePlan 0).languageAt 2 = some 0 ∧
    ((redrafted true).pls.effectivePlan 0).channelOf 0 = some 1 ∧
    ({ (redrafted true).pls with active := (redrafted true).pls.draft }.effectivePlan 0).languageAt 1 = none ∧
    ((redrafted true).token (busOf 0 1)).holder = some 0 ∧ ((redrafted true).token (busOf 0 1)).waits = [] ∧
    (redrafted false).pls.boothHall 0 = 0 ∧ (∀ d < 224, ((redrafted true).route d).mark = false) := by
  refine ⟨rfl, rfl, ?_⟩; decide +kernel

theorem test_meets_HallsAreSet :
    Ready organised ∧ hallField organised.cpi.window 5 = some 5 ∧ optBelow 512 511 = some (some 511) ∧
    optBelow 512 0xFFFFFFFF = some none ∧ (7 : Word).toNat < 8 ∧ (organised.account 511).state = .opened ∧
    (organised.account 511).kind = .organiser ∧ (organised.account 0).state = .free ∧
    hallStateField 3 = some .tone ∧ (pair true).pls.joinedJunior 1 = true ∧ (pair true).pls.joinedJunior 0 = false ∧
    ((pair true).hall 0).state ≠ .tone ∧ hallStateField 0 = some .live ∧ ((pair true).hall 0).state = .live := by
  refine ⟨rfl, ?_⟩; decide +kernel

theorem test_meets_LeavingLiveClearsTheFloor :
    Ready talking ∧ talking.pls.joinedJunior 0 = false ∧ (talking.hall 0).state = .live ∧ HallState.quiet ≠ .live ∧
    hallStateField 1 = some .quiet ∧ exec (.setHallState 1 0 1) talking = .next (after (.setHallState 1 0 1) talking) ∧
    talking.pls.boothHall 0 = 0 ∧ (0 : Nat) ∈ consolesOf 0 ∧ (talking.floor 0).mic ≠ .off ∧
    ((after (.setHallState 1 0 1) talking).floor 0).lastOff = some .hallTest ∧
    ((after (.setHallState 1 0 1) talking).link 0).directives = [.micOff .hallTest, .lock] := by
  refine ⟨rfl, ?_, ?_, ?_, ?_, rfl, ?_, ?_, ?_, ?_, ?_⟩ <;> decide +kernel

theorem test_meets_PairsJoinAndSplit :
    Ready (pair false) ∧ hallField 0 1 = some 1 ∧ (pair false).pls.joined 1 = !true ∧ (pair false).pls.operation = none ∧
    ((pair false).hall (senior 1)).state = .live ∧ ((pair false).hall (junior 1)).state = .live ∧
    (pair false).lostLanguage (junior 1) ((pair false).pls.active.hall (senior 1)) = none ∧
    Ready (pair true) ∧ (pair true).pls.joined 0 = !false ∧ (pair true).pls.operation = none ∧
    ((pair true).hall (senior 0)).state = .live ∧
    (pair true).lostLanguage (junior 0) ((pair true).pls.active.hall (junior 0)) = none := by
  refine ⟨rfl, ?_, ?_, ?_, ?_, ?_, ?_, rfl, ?_, ?_, ?_, ?_⟩ <;> decide +kernel

theorem test_meets_PairsJoinAndSplit_taken :
    exec (.joinHalls 1 1) (pair false) = .next (after (.joinHalls 1 1) (pair false)) ∧
    exec (.splitHalls 1 0) (pair true) = .next (after (.splitHalls 1 0) (pair true)) ∧ 0 ∈ (pair false).pls.boothsOfPair 1 ∧
    (∀ d < 224, ((pair false).route d).mark = false) := ⟨rfl, rfl, by decide +kernel, by decide +kernel⟩

/-- Each refusal in its order: a hall above 5, a pair joined or not, an operation in flight, a hall not LIVE, a language that would be lost. -/
theorem test_meets_PairsJoinAndSplit_refused :
    hallField 0 6 = none ∧ (pair true).pls.joined 0 = true ∧ (pair false).pls.joined 0 = false ∧
    (applying 1).pls.joined 0 = !true ∧ (applying 1).pls.operation ≠ none ∧ (base.hall (senior 0)).state ≠ .live ∧
    ((carried.setHall 0 { Hall.initial with state := .live }).hall (junior 0)).state ≠ .live ∧
    ((pair false).setListening 1 47 1).lostLanguage (junior 1) ((pair false).pls.active.hall (senior 1)) = some 47 ∧
    ((pair true).setListening 1 0 1).lostLanguage (junior 1) ((pair true).pls.active.hall (junior 1)) = some 0 := by
  decide +kernel

theorem test_meets_BeaconFramesAreSent :
    ((base.setHall 5 { Hall.initial with beaconOn := true }).hall 5).beaconOn = true ∧ (base.hall 5).beaconOn = false ∧
    (carried.hall 0).announced ≠ carried.pls.beaconMap 0 ∧
    (∀ d < 224, carried.pls.destinationHall d = 0 → (carried.route d).mark = false) ∧
    (base.hall 5).announced = base.pls.beaconMap 5 ∧ (stale none true .pending).pls.destinationHall 0 = 0 ∧
    ((stale none true .pending).route 0).mark = true := by decide +kernel

theorem test_meets_SetIsFormed :
    Rte.reset.up = true ∧ Rte.reset.outstanding = none ∧ Rte.reset.urgent ++ Rte.reset.bulk = 0 :: (List.range 224).tail ∧
    (outstanding lastSet base).rte.outstanding ≠ none ∧ (down base).rte.up = false ∧
    ({ Rte.reset with bulk := [] } : Rte).urgent = [] := by decide +kernel

/-- Destination 223 is STUCK. -/
def stuckRoute : State := base.setRoute 223 { Route.initial with status := .stuck }

theorem test_meets_StuckRoutesAreRetried : Ready stuckRoute ∧ (stuckRoute.route 223).status = .stuck ∧
    (stuckRoute.route 0).status ≠ .stuck := ⟨rfl, by decide⟩

theorem test_meets_DoneIsTaken :
    -- nothing outstanding; a command with another tag
    base.rte.outstanding = none ∧ (outstanding lastSet base).rte.outstanding = some lastSet ∧ lastSet.tag ≠ 1 ∧
    -- the last destination, its command still desired, unmarked and marked
    lastSet.destination = (223 : Byte).toNat ∧ ((outstanding lastSet base).route 223).desired = lastSet.source ∧
    ((outstanding lastSet base).route 223).mark = false ∧
    ((outstanding lastSet (base.setRoute 223 { Route.initial with mark := true })).route 223).mark = true ∧
    (applying 1).pls.markCount ≤ 1 ∧ 1 < (applying 2).pls.markCount ∧
    -- and no longer desired
    ((outstanding lastSet (base.setRoute 223 { Route.initial with desired := .tone })).route 223).desired ≠ lastSet.source := by
  decide +kernel

theorem test_meets_RejectsAndTimeouts :
    (outstanding lastSet base).rte.outstanding = some lastSet ∧ lastSet.destination = (223 : Byte).toNat ∧ lastSet.tag ≠ 1 ∧
    ({ base.rte with timeouts := 2 } : Rte).timeouts + 1 < 4 ∧ base.rte.outstanding = none ∧
    (Rte.reset.route lastSet.destination).desired = lastSet.source ∧ ({ lastSet with sends := 3 } : SetCommand).sends < 4 ∧
    4 ≤ ({ lastSet with sends := 4 } : SetCommand).sends ∧
    (Rte.reset.route 223).desired ≠ ({ lastSet with source := .tone } : SetCommand).source ∧
    lastSet.destination ∈ ({ Rte.reset with urgent := [223] } : Rte).urgent ∧ lastSet.destination ∉ Rte.reset.urgent ∧
    lastSet.destination ∈ Rte.reset.bulk ∧ RejectReason.noPort ≠ .busy ∧
    -- a mark: the last one, and one of two
    ((outstanding lastSet ((applying 1).setRoute 223 { Route.initial with mark := true })).route 223).mark = true ∧
    (applying 1).pls.markCount ≤ 1 ∧ 1 < (applying 2).pls.markCount ∧ (applying 2).pls.operation ≠ none := by decide +kernel

theorem test_meets_LinkDownAndUp :
    (outstanding lastSet { base with rte := { base.rte with timeouts := 3 } }).rte.outstanding = some lastSet ∧
    3 ≤ (outstanding lastSet { base with rte := { base.rte with timeouts := 3 } }).rte.timeouts ∧
    (down base).rte.up = false ∧ base.rte.up = true ∧ (stuckRoute.rte.route 223).status = .stuck := by decide +kernel

/-- A reply of console 0 that says nothing. -/
def quietReply : Reply := { address := 0, ack := .none, ackBit := false, indicationBit := false, indication := .quiet }

theorem test_meets_ProbesBringConsolesOnline :
    -- address 95 waits for its probe until 700 ms; it has not, and has, its next probe due
    ((base.bbc.setSegment 1 { base.bbc.segment 1 with probes := (base.bbc.segment 1).probes.insert 95 (.at 700) }).segment
      (segmentOf 95)).probe 95 = .at 700 ∧ (base.link 95).hears = false ∧
    ((base.setLink 95 { Link.initial with state := .suspect }).link 95).hears = true ∧
    ((probed 0 base).bbc.segment 0).transaction = some { console := 0, probe := true, carried := false, started := 0 } ∧
    quietReply.address.val = 0 ∧ quietReply.valid = true ∧
    ((polled 0 false base).bbc.segment 0).transaction = some { console := 0, probe := false, carried := false, started := 0 } ∧
    (base.bbc.segment 0).transaction = none := by decide +kernel

/-- Segment 0 with every probe made a moment ago and, where asked, its last console ONLINE, at a round position. -/
def polling (hears : Bool) (position : Nat) : State :=
  let probes := (List.range 48).foldl (fun t a => t.insert a (Due.at 900)) base.bbc.segment0.probes
  { base with bbc := { base.bbc with
      segment0 := { base.bbc.segment0 with probes := probes, position := position }
      links := if hears then base.bbc.links.insert 47 { Link.initial with state := .online } else base.bbc.links } }

theorem test_meets_ProbesBringConsolesOnline_segments :
    Ready base ∧ Ready (polling true 0) ∧
    -- a transaction in progress; a probe after a poll and with nothing to poll; a poll straight on and round; nothing at all
    ((polled 0 false base).bbc.segment 0).transaction ≠ none ∧ (base.bbc.segment 1).afterPoll = true ∧
    base.bbc.nextProbe 1 = some 48 ∧ base.bbc.nextPoll 1 = none ∧
    (polling true 47).bbc.nextPoll 0 = some (47, false) ∧ (polling true 47).bbc.nextProbe 0 = none ∧
    ((polling true 48).bbc.nextPoll 0 = some (47, true)) ∧ (polling false 0).bbc.nextPoll 0 = none ∧
    (polling false 0).bbc.nextProbe 0 = none ∧ ((probed 0 base).bbc.segment 0).afterPoll = false ∧
    -- replies that fit and one that does not
    quietReply.address.val = 0 ∧ quietReply.valid = true ∧ ({ quietReply with address := 95 } : Reply).address.val ≠ 0 := by
  refine ⟨rfl, rfl, ?_⟩; decide +kernel

theorem test_meets_MissesTakeConsolesOffline :
    ((polled 0 false base).bbc.segment 0).transaction = some { console := 0, probe := false, carried := false, started := 0 } ∧
    ((base.setLink 0 { Link.initial with state := .suspect, misses := 2 }).link 0).misses + 1 < 4 ∧
    4 ≤ ((base.setLink 0 { Link.initial with state := .suspect, misses := 3 }).link 0).misses + 1 ∧
    ((probed 0 base).bbc.segment 0).transaction = some { console := 0, probe := true, carried := false, started := 0 } ∧
    (base.bbc.segment 1).transaction = none ∧ (talking.floor 0).mic = .live ∧ 0 ∉ (talking.booth (boothOf 0)).requests ∧
    -- a reset begins a recovery, in which nothing is in progress
    (after (.resetLinks 9 0) base).cpi.recovery ≠ none ∧ (after (.resetLinks 9 0) base).rks.line = none ∧
    ((after (.resetLinks 9 0) base).bbc.segment 1).transaction = none := by decide +kernel

/-- A reply of console 0 that asks for the microphone under a new indication bit. -/
def micReply : Reply := { quietReply with indicationBit := true, indication := .micRequest }

theorem test_meets_PollRepliesAreTaken :
    ((polled 0 true talking).bbc.segment 0).transaction = some { console := 0, probe := false, carried := true, started := 0 } ∧
    quietReply.address.val = 0 ∧ quietReply.valid = true ∧ quietReply.indication = .quiet ∧
    ({ micReply with indicationBit := false } : Reply).indicationBit = (talking.link 0).acceptedBit ∧
    ((talking.link 0).answered.acknowledge true .none false).identPending = false ∧
    ({ Link.initial with directives := [.lock, .unlock] } : Link).directives = .lock :: [.unlock] ∧
    micReply.indication ≠ .quiet ∧ micReply.address.val = 0 ∧ micReply.valid = true ∧
    (((talking.setLink 0 { Link.initial with state := .online, identPending := true }).link 0).answered.acknowledge true .none
      false).identPending = true := by decide +kernel

/-- In the LIVE hall H0 console 0 is ONLINE and OFF. -/
def listening : State := carried.setLink 0 { Link.initial with state := .online }

theorem test_meets_MicIsGranted :
    ((polled 0 false listening).bbc.segment 0).transaction =
      some { console := 0, probe := false, carried := false, started := 0 } ∧
    boothOf 0 = 0 ∧ micReply.address.val = 0 ∧ micReply.indication = .micRequest ∧
    micReply.indicationBit ≠ (listening.link 0).acceptedBit ∧
    ((listening.link 0).answered.acknowledge false micReply.ack micReply.ackBit).identPending = false ∧
    (listening.floor 0).mic = .off ∧ listening.requestCheck 0 = none ∧ (listening.booth 0).holder = none ∧
    listening.pls.boothChannel 0 (listening.requestDirection 0) = some 1 ∧ (listening.booth 0).snoop = true ∧
    (listening.token (busOf (listening.pls.boothHall 0) 1)).holder = none ∧
    0 ∉ (listening.token (busOf (listening.pls.boothHall 0) 1)).waits ∧ (listening.link 0).hears = true ∧
    -- and in a hall that is QUIET the check fails
    (listening.setHall 0 Hall.initial).requestCheck 0 = some .hallNotLive := by decide +kernel

/-- A directive list of five entries of each kind once, none of them for the microphone. -/
def fiveWaiting : Link :=
  { Link.initial with state := .online, directives := [.lock, .relaySet .floor, .handoverAsked, .dutyWarn 60, .ident 0 0] }

theorem test_meets_DirectiveListsStayInOrder :
    ListInOrder fiveWaiting ∧ (Directive.micOn).kind ≠ .ident ∧ fiveWaiting.hears = true ∧
    fiveWaiting.waiting.all (fun e => e.kind != .mic) = true ∧ fiveWaiting.directives.length < 6 ∧
    Link.initial.hears = false :=
  ⟨⟨by decide, by decide, by intro k; cases k <;> decide, by decide⟩, by decide⟩

/-- Console 0 waits for its booth, which console 1 holds. -/
def waiting : State :=
  ((talking.setFloor 0 { FloorRecord.initial with mic := .waitBooth }).setFloor 1 { FloorRecord.initial with mic := .live }).setBooth
    0 { BoothFloor.initial with holder := some 1, requests := [0], deadline := some 1 }

/-- Holders are at home where every listed booth's is. -/
theorem holders_at_home {s : State}
    (h : ∀ p ∈ s.fla.booths.cells, ∀ a ∈ p.2.holder.toList, boothOf a = p.1) : HoldersAtHome s := by
  intro b a e
  have := Table.get_all (P := fun b (x : BoothFloor) => ∀ a ∈ x.holder.toList, boothOf a = b) (d := BoothFloor.initial)
    (by intro k a ha; cases ha) h b
  exact this a (by simpa [State.booth] using e)

/-- The tokens are held where every listed booth and every listed console agree. -/
theorem tokens_held {s : State}
    (hb : ∀ p ∈ s.fla.booths.cells,
      (∀ a ∈ p.2.holder.toList, boothOf a = p.1 ∧ ((s.floor a).mic = .live ∨ (s.floor a).mic = .waitChannel)) ∧
      (∀ a ∈ p.2.requests, boothOf a = p.1 ∧ (s.floor a).mic = .waitBooth) ∧
      p.2.requests.Nodup ∧ (p.2.requests ≠ [] → p.2.holder ≠ none) ∧ (p.2.deadline ≠ none → p.2.requests ≠ []))
    (hf : ∀ p ∈ s.fla.consoles.cells,
      (p.2.mic = .live ∨ p.2.mic = .waitChannel → (s.booth (boothOf p.1)).holder = some p.1) ∧
      (p.2.mic = .waitBooth → p.1 ∈ (s.booth (boothOf p.1)).requests)) : TokensHeld s := by
  have kb := Table.get_all (d := BoothFloor.initial)
    (P := fun b (x : BoothFloor) =>
      (∀ a ∈ x.holder.toList, boothOf a = b ∧ ((s.floor a).mic = .live ∨ (s.floor a).mic = .waitChannel)) ∧
      (∀ a ∈ x.requests, boothOf a = b ∧ (s.floor a).mic = .waitBooth) ∧
      x.requests.Nodup ∧ (x.requests ≠ [] → x.holder ≠ none) ∧ (x.deadline ≠ none → x.requests ≠ []))
    (fun _ => by simp [BoothFloor.initial]) hb
  have kf := Table.get_all (d := FloorRecord.initial)
    (P := fun a (x : FloorRecord) => (x.mic = .live ∨ x.mic = .waitChannel → (s.booth (boothOf a)).holder = some a) ∧
      (x.mic = .waitBooth → a ∈ (s.booth (boothOf a)).requests))
    (fun _ => by simp [FloorRecord.initial]) hf
  refine ⟨fun b a => ⟨fun e => (kb b).1 a ?_, fun ⟨hba, m⟩ => ?_⟩, fun b a => ⟨(kb b).2.1 a, fun ⟨hba, m⟩ => ?_⟩, fun b => (kb b).2.2⟩
  · simpa [State.booth] using e
  · subst hba; exact (kf a).1 m
  · subst hba; exact (kf a).2 m

theorem test_meets_MicIsForcedOff :
    Ready talking ∧ (95 : Word).toNat < 96 ∧ (talking.floor 95).mic = .off ∧ (waiting.floor 0).mic = .waitBooth ∧
    (waiting.booth 0).requests.erase 0 = [] ∧ (talking.floor 0).mic = .live ∧ 0 ∉ (talking.booth (boothOf 0)).requests := by
  refine ⟨rfl, ?_⟩; decide +kernel

theorem test_talking_holders_at_home : HoldersAtHome talking := holders_at_home (by decide +kernel)

theorem test_talking_tokens_held : TokensHeld talking := tokens_held (by decide +kernel) (by decide +kernel)

theorem test_meets_CommitIsTaken_directives :
    HoldersAtHome (redrafted false) ∧ exec (.commitPlan 1 0) (redrafted false) = .next (after (.commitPlan 1 0) (redrafted false)) ∧
    (0 : Nat) < 32 ∧ (2 : Nat) ∈ consolesOf 0 := ⟨holders_at_home (by decide +kernel), rfl, by decide, by decide⟩

theorem test_meets_TokensStayHeld :
    TokensHeld { talking with pending := [.bbMalformedReply 0] } ∧
    step { talking with pending := [.bbMalformedReply 0] } = .next (after (.bbMalformedReply 0) talking) :=
  ⟨test_talking_tokens_held, rfl⟩

/-- The handover deadline of booth 0 ends at the next tick. -/
def handing : State := talking.setBooth 0 { BoothFloor.initial with holder := some 0, requests := [1], deadline := some 1 }

/-- Languages 0 and 1 are on the channels 1 and 2 of H0, channel 1 with an interlock. Booth 0 feeds both, booth 1 the first with its A;
console 0 is LIVE on channel 1 in a mode of booth 0. -/
def shared (i : Interlock) (mode : Mode) : State :=
  let hall := (HallPlan.initial.setEntry 1 { language := some 0, fallback := .floor, interlock := i }).setEntry 2
    { language := some 1, fallback := .floor, interlock := i }
  let p := ((Plan.initial.setHall 0 hall).setBooth 0 { home := 0, a := some 0, b := some 1, relay := .floor }).setBooth 1
    { home := 0, a := some 0, b := none, relay := .floor }
  ({ talking with pls := { talking.pls with active := p, draft := p, languages := talking.pls.languages.insert 1 [68] } }).setBooth 0
    { BoothFloor.initial with mode := mode, holder := some 0 }

/-- Booth 1 waits for channel 1, which console 3 of it wants; or, with nothing waiting, it holds channel 2. -/
def queued (s : State) : State :=
  ((s.setBooth 1 { BoothFloor.initial with holder := some 3 }).setFloor 3 { FloorRecord.initial with mic := .waitChannel }).setToken
    (busOf 0 1) { ChannelToken.initial with holder := some 0, waits := [1] }

/-- The DRAFT takes channel 1 from booth 0, for which booth 1 waits. -/
def passing : State :=
  let s := queued (shared .firstHolds .exclusive)
  { s with pls := { s.pls with draft := s.pls.active.setBooth 0 { home := 0, a := none, b := none, relay := .floor } } }

theorem test_meets_CommitIsTaken_passes :
    Ready passing ∧ passing.commitCheck 0 = none ∧ (passing.token (busOf 0 1)).holder = some 0 ∧
    (passing.booth 0).holder ≠ none ∧ passing.pls.boothHall 0 = 0 ∧
    ¬ BoothKept passing.pls { passing.pls with active := passing.pls.draft } 0 .a ∧
    BoothKept passing.pls { passing.pls with active := passing.pls.draft } 1 .a ∧
    (passing.token (busOf 0 1)).waits = 1 :: [] ∧ (passing.booth 1).holder = some 3 ∧
    ({ passing.pls with active := passing.pls.draft }.effectivePlan 0).languageAt 1 = some 0 ∧
    (passing.pls.effectivePlan 0).channelOf 0 = some 1 := by
  refine ⟨rfl, ?_⟩; decide +kernel

theorem test_meets_IndicationsAreTaken :
    -- the checks of a request, in order
    ((carried.setHall 0 Hall.initial).hall 0).state ≠ .live ∧ ((polled 0 false talking).hall 0).state = .live ∧
    ((carried.setBooth 0 { BoothFloor.initial with loginRequired := true }).booth 0).loginRequired = true ∧
    (carried.floor 0).login = none ∧ (carried.booth 0).loginRequired = false ∧
    carried.pls.boothChannel 1 (carried.requestDirection 3) = none ∧
    carried.pls.boothChannel 0 (carried.requestDirection 0) = some 1 ∧
    (talking.booth 0).mode = .exclusive ∧ (talking.booth 0).holder ≠ none ∧
    -- releases and directions
    (talking.floor 95).mic = .off ∧ (talking.floor 0).mic = .live ∧ (waiting.floor 0).mic = .waitBooth ∧
    (talking.floor 0).switch = .a ∧ (talking.booth 0).snoop = true ∧ (talking.booth 0).holder = some 0 ∧
    talking.pls.boothChannel 0 .b = none ∧ (shared .firstHolds .exclusive).pls.boothChannel 0 .b = some 2 ∧
    ((shared .firstHolds .exclusive).token (busOf ((shared .firstHolds .exclusive).pls.boothHall 0) 2)).holder = none ∧
    (((shared .firstHolds .exclusive).setToken (busOf 0 2) { ChannelToken.initial with holder := some 1 }).token
      (busOf 0 2)).holder = some 1 ∧
    -- picks, cues, logins
    ((talking.setBooth 0 { talking.booth 0 with relayLock := true }).booth 0).relayLock = true ∧ (talking.booth 0).relayLock = false ∧
    48 ≤ (48#6).toNat ∧ (47#6).toNat < 48 ∧ talking.pls.relayCheck talking.picks 0 .floor = none ∧
    talking.pls.relayCheck talking.picks 0 (.language 47) = some .notCarried ∧ talking.outputLanguage 1 = none ∧
    talking.outputLanguage 0 = some 0 ∧ 8 < (List.replicate 9 (65 : Byte)).length ∧
    512 ≤ (512#10).toNat ∧ (511#10).toNat < 512 ∧ (talking.floor 0).login = none ∧
    ((talking.setFloor 0 { talking.floor 0 with login := some 511 }).floor 0).login = some 511 ∧
    ((talking.setBooth 0 { talking.booth 0 with loginRequired := true }).booth 0).loginRequired = true := by decide +kernel

theorem test_meets_IndicationsAreTaken_logout :
    TokensHeld ((talking.setBooth 0 { talking.booth 0 with loginRequired := true }).setFloor 0
      { talking.floor 0 with login := some 511 }) := tokens_held (by decide +kernel) (by decide +kernel)

theorem test_meets_TokensPass :
    -- a request under HANDOVER while the holder is LIVE and while it is not, and under OVERRIDE
    ((shared .firstHolds .handover).booth 0).mode = .handover ∧ ((shared .firstHolds .handover).booth 0).holder = some 0 ∧
    ((shared .firstHolds .handover).floor 0).mic = .live ∧
    (((shared .firstHolds .handover).setFloor 0 { FloorRecord.initial with mic := .waitChannel }).floor 0).mic ≠ .live ∧
    ((shared .firstHolds .override).booth 0).mode = .override ∧
    (shared .firstHolds .override).pls.boothChannel 0 .a = some 1 ∧
    ((shared .firstHolds .override).token (busOf ((shared .firstHolds .override).pls.boothHall 0) 1)).holder = some 0 ∧
    -- a request for a free token whose channel is free, held under FIRST_HOLDS, and held under LAST_TAKES
    ((shared .firstHolds .exclusive).booth 1).holder = none ∧ (shared .firstHolds .exclusive).pls.boothChannel 1 .a = some 1 ∧
    1 ∉ ((shared .firstHolds .exclusive).token (busOf 0 1)).waits ∧
    (carried.token (busOf (carried.pls.boothHall 0) 1)).holder = none ∧
    (shared .firstHolds .exclusive).pls.interlock 0 1 = .firstHolds ∧
    ((shared .firstHolds .exclusive).token (busOf 0 1)).waits.length < 4 ∧
    (shared .lastTakes .exclusive).pls.interlock 0 1 = .lastTakes ∧ ((shared .lastTakes .exclusive).booth 0).requests = [] ∧
    0 ∉ ((shared .lastTakes .exclusive).token (busOf 0 1)).waits ∧
    -- a released token: no request, a waiting booth, a console that asks
    ((queued (shared .firstHolds .exclusive)).booth 0).requests = [] ∧ boothOf 0 = 0 ∧
    ((queued (shared .firstHolds .exclusive)).token (busOf 0 1)).waits = 1 :: [] ∧
    ((queued (shared .firstHolds .exclusive)).booth 1).holder = some 3 ∧
    (handing.booth 0).requests = 1 :: [] ∧ handing.pls.boothChannel 0 .a = some 1 ∧
    (handing.token (busOf 0 1)).holder = some 0 ∧
    ((handing.setToken (busOf 0 1) { ChannelToken.initial with holder := some 7, waits := [8, 9, 10] }).token (busOf 0 1)).holder =
      some 7 ∧ (7 ≠ 0) ∧ 0 ∉ [8, 9, 10] ∧ 0 ∉ [8, 9, 10, 11] ∧ (handing.booth 0).mode ≠ .handover ∧
    boothOf 1 = 0 ∧ (base.setBooth 0 { BoothFloor.initial with holder := some 0, requests := [1] }).pls.boothChannel 0 .a = none ∧
    -- a channel given up, with and without a waiting booth, and one not held
    (talking.token (busOf 0 1)).waits = [] ∧ (talking.token (busOf 0 1)).holder = some 0 ∧
    (talking.token (busOf 0 1)).holder ≠ some 1 := by decide +kernel

theorem test_meets_TokensPass_at_home :
    HoldersAtHome (shared .firstHolds .override) ∧ HoldersAtHome (shared .lastTakes .exclusive) ∧
    HoldersAtHome (queued (shared .firstHolds .exclusive)) ∧
    HoldersAtHome (base.setBooth 0 { BoothFloor.initial with holder := some 0, requests := [1] }) :=
  ⟨holders_at_home (by decide +kernel), holders_at_home (by decide +kernel), holders_at_home (by decide +kernel),
    holders_at_home (by decide +kernel)⟩

/-- The tick source is INTERNAL, its next tick at 3000 ms. -/
def ticking : State := { base with tau := { base.tau with internal := true, nextInternal := some 3000 } }

/-- The organiser 511 bears H0, whose channel 1 booth 0 serves, one tick before its service minute is full. -/
def serving : State :=
  ((talking.setHall 0 { talking.hall 0 with organiser := some 511 }).setAccount 511
    { Account.initial with state := .opened, kind := .organiser }).setToken (busOf 0 1)
    { ChannelToken.initial with holder := some 0, service := 59 }

/-- Console 0 is LIVE with a duty timer. -/
def onDuty (timer : Nat) : State := talking.setFloor 0 { FloorRecord.initial with mic := .live, dutyTimer := timer }

theorem test_handing_holders_at_home : HoldersAtHome handing := holders_at_home (by decide +kernel)

theorem test_meets_TicksAreTaken :
    ({ base with tau := { base.tau with watch := some 1500 } } : State).tau.internal = false ∧
    ({ base.tau with watch := some 1500 } : Tau).watch = some 1500 ∧ ticking.tau.internal = true ∧
    ticking.tau.nextInternal = some 3000 ∧ base.tau.internal = false ∧
    -- seconds of a live feeder, a deadline that runs on and one that ends
    talking.feeder 5 31 = none ∧ (serving.account 511).frozen = false ∧
    0 < (List.range 32).countP (fun c => (serving.feeder 0 c).isSome) ∧
    ((handing.setBooth 0 { handing.booth 0 with deadline := some 2 }).booth 0).deadline = some 2 ∧
    -- the Floor Arbiter's shares
    ((onDuty 1799).floor 0).mic = .live ∧ ((onDuty 1799).floor 0).dutyWarned = false ∧
    ((onDuty 1799).floor 0).dutyTimer < 4294967295 ∧
    ((onDuty 1799).booth (boothOf 0)).dutyLimit * 60 ≤ ((onDuty 1799).floor 0).dutyTimer + 1 ∧
    ((onDuty 2099).floor 0).mic = .live ∧ ((onDuty 2099).floor 0).dutyOver = false ∧
    ((onDuty 2099).floor 0).dutyTimer < 4294967295 ∧
    ((onDuty 2099).booth (boothOf 0)).dutyLimit * 60 + 300 ≤ ((onDuty 2099).floor 0).dutyTimer + 1 ∧
    serving.feeder 0 1 = some 0 ∧ 60 ≤ (serving.token (busOf 0 1)).service + 1 ∧ (serving.hall 0).organiser = some 511 ∧
    (serving.account 511).state = .opened ∧
    ((serving.setAccount 511 { Account.initial with state := .suspended, kind := .organiser }).account 511).state ≠ .opened ∧
    (handing.booth 0).deadline = some 1 ∧ (handing.booth 0).holder = some 0 ∧ 0 ∉ (handing.booth 0).requests := by decide +kernel

/-- Console 0 is the one LIVE console at which account 510 is logged in; it bears no hall, and no deadline runs. -/
theorem test_meets_TicksAreTaken_seconds :
    let s := serving.setFloor 0 { FloorRecord.initial with mic := .live, login := some 510 }
    (s.floor 0).mic = .live ∧ (s.floor 0).login = some 510 ∧
    (∀ c, c ≠ 0 → (s.floor c).mic = .live → (s.floor c).login ≠ some 510) ∧ (∀ h, (s.hall h).organiser ≠ some 510) ∧
    (∀ g, g ≠ 0 → (s.hall g).organiser ≠ some 511) ∧ ∀ b n, (s.booth b).deadline = some n → 1 < n := by
  refine ⟨by decide +kernel, by decide +kernel, fun c => ?_, fun h => ?_, fun g => ?_, fun b n e => ?_⟩
  · exact Table.get_all (P := fun c x => c ≠ 0 → x.mic = MicState.live → x.login ≠ some 510) (d := FloorRecord.initial)
      (by intro k _ h; cases h) (by decide +kernel) c
  · exact Table.get_all (P := fun _ x => x.organiser ≠ some 510) (d := Hall.initial) (by intro k; decide) (by decide +kernel) h
  · exact Table.get_all (P := fun g x => g ≠ 0 → x.organiser ≠ some 511) (d := Hall.initial) (by intro k _; decide)
      (by decide +kernel) g
  · have := Table.get_all (P := fun _ x => ∀ n ∈ x.deadline.toList, 1 < n) (d := BoothFloor.initial)
      (by intro k m h; cases h) (t := (serving.setFloor 0 { FloorRecord.initial with mic := .live, login := some 510 }).fla.booths)
      (by decide +kernel) b
    exact this n (by simpa [State.booth] using e)

/-- Console 1 waits for the token that console 0 holds until the next tick. -/
theorem test_meets_TicksAreTaken_handover :
    TokensHeld (handing.setFloor 1 { FloorRecord.initial with mic := .waitBooth }) :=
  tokens_held (by decide +kernel) (by decide +kernel)

/-- A hire under account 511, due at 3600 s. -/
def aHire : Hire :=
  { account := 511, hall := 0, language := 0, tariff := 7, deposit := 0, issueTime := 0, dueTime := 3600, lossCharge := none }

/-- Receiver 4095, with serial 9, in a state of a hire, at a moment of the clock. -/
def hired (state : ReceiverState) (clock : Nat) : State :=
  { base.setReceiver 4095 { Receiver.initial with serial := some 9, state := state, hire := some aHire } with
    tau := { base.tau with clock := clock } }

/-- An open ticket that holds receiver 4095. -/
def aTicket : Ticket :=
  { state := .awaitPickup, account := 511, hall := 0, language := 0, desk := 3, tariff := 7, receiver := some 4095,
    attempts := 1, step := none, timer := 1, ending := none }

/-- The open ticket 7, its receiver in slot 639. -/
def ticketed : State :=
  (base.setTicket 7 aTicket).setReceiver 4095
    { Receiver.initial with serial := some 9, state := .issuing, slot := some 639, ticket := some 7 }

theorem test_meets_HireSharesOfATick :
    ((hired .issued 3601).receiver 4095).state = .issued ∧ ((hired .issued 3601).receiver 4095).hire = some aHire ∧
    aHire.dueTime < (hired .issued 3601).tau.clock ∧ (hired .issued 3600).tau.clock ≤ aHire.dueTime ∧
    ((hired .overdue 90001).receiver 4095).state = .overdue ∧
    min 4294967295 (aHire.dueTime + ((hired .overdue 90001).tariff aHire.tariff).lostGrace * 3600) <
      (hired .overdue 90001).tau.clock ∧
    ticketed.ticket 7 = some aTicket ∧ aTicket.state = .awaitPickup ∧ aTicket.timer = 1 ∧ aTicket.receiver = some 4095 ∧
    ({ base.rks with pollCounter := 59 } : Rks).pollInterval ≤ ({ base.rks with pollCounter := 59 } : Rks).pollCounter + 1 := by
  decide +kernel

/-- An exchange is in progress on the rack line. -/
def exchanging (x : Exchange) (s : State) : State := { s with rks := { s.rks with line := some x } }

/-- Rack 15 with a job for its last slot at the head of its list, its attempt in progress. -/
def working (kind : JobKind) (number : Nat) (due : Option Due) : State :=
  base.setRack 15
    { Rack.initial with jobs := [{ slot := 639, kind := kind, origin := .host, preset := none, failed := 0 }]
                        attempt := some { number := number, began := 0, resultDue := due } }

theorem test_meets_RackLineRuns :
    ({ Rack.initial with nextScan := .at 160 } : Rack).nextScan = .at 160 ∧ (base.rack 15).nextScan = .fallen 0 ∧
    (exchanging (.scan 15 0) base).rks.line = some (.scan 15 0) ∧ (List.replicate 40 true).length = 40 ∧
    (base.rack 15).silent = false ∧ ((base.setRack 15 { Rack.initial with silent := true }).rack 15).silent = true ∧
    rackOf 639 = 15 ∧ rackOf 599 ≠ 15 ∧ (base.slot 639).state = .disabled ∧
    -- a slot whose candidate stands, one without a candidate, and one UNSETTLED
    ({ Slot.initial with state := .settling, candidate := some true } : Slot).presence ≠ .unsettled ∧
    (({ Slot.initial with state := .settling, candidate := some true } : Slot).read true).2 = some true ∧
    (({ Slot.initial with state := .occupied, presence := .present, candidate := some false } : Slot).read false).2 = some false ∧
    (({ Slot.initial with state := .empty } : Slot).read true).2 = none ∧
    ({ Slot.initial with presence := .unsettled } : Slot).presence = .unsettled ∧
    -- contact jobs
    (exchanging (.start 15 0) (working .identify 1 none)).rks.line = some (.start 15 0) ∧
    ((working .identify 1 none).rack 15).attempt = some { number := 1, began := 0, resultDue := none } ∧
    ((working .identify 1 (some (.at 20))).rack 15).attempt =
      some { number := 1, began := 0, resultDue := some (.at 20) } ∧
    (exchanging (.result 15 0 20) (working .latchOpen 2 none)).rks.line = some (.result 15 0 20) ∧
    ((working .latchOpen 2 none).rack 15).jobs =
      { slot := 639, kind := .latchOpen, origin := .host, preset := none, failed := 0 } :: [] ∧
    JobKind.latchOpen ≠ .identify ∧ JobOrigin.host ≠ .rpm ∧ (exchanging (.scan 15 0) base).rks.line = some (.scan 15 0) ∧
    base.rks.line = none ∧ ({ Rack.initial with missed := 1 } : Rack).missed < 2 ∧
    ({ Rack.initial with missed := 2 } : Rack).missed = 2 ∧ ({ Rack.initial with missed := 2 } : Rack).silent = false ∧
    ((working .latchOpen 2 none).slot 639).occupant = none ∧
    (exchanging (.result 15 0 20) (working .identify 1 none)).rks.line = some (.result 15 0 20) ∧
    ((working .latchOpen 2 none).rack 15).attempt = some { number := 2, began := 0, resultDue := none } := by decide +kernel

/-- Under NIGHT slot 639, with attention and wake, has read present once. -/
def arriving : State :=
  { base.setSlot 639 { Slot.initial with state := .settling, candidate := some true, attention := true, wake := true } with
    rks := { (base.setSlot 639
      { Slot.initial with state := .settling, candidate := some true, attention := true, wake := true }).rks with night := true } }

theorem test_meets_RackLineRuns_wake :
    arriving.rks.night = true ∧ rackOf 639 = 15 ∧ (arriving.slot 639).attention = true ∧ (arriving.slot 639).wake = true ∧
    (arriving.slot 639).state ≠ .disabled ∧ ((arriving.slot 639).read true).2 = some true ∧ (arriving.rack 15).silent = false ∧
    base.rks.night = false ∧ (after (.rlScanReply 15 (List.replicate 40 true)) (exchanging (.scan 15 0) arriving)).rks.night = false := by
  decide +kernel

/-- Receiver 4095, with serial 9, is in STOCK. -/
def stocked : State := base.setReceiver 4095 { Receiver.initial with serial := some 9, state := .stock }

theorem test_meets_ReceiversAreIdentified :
    (exchanging (.result 15 0 20) (working .identify 2 none)).rks.line = some (.result 15 0 20) ∧
    ((working .identify 2 none).rack 15).jobs =
      { slot := 639, kind := .identify, origin := .host, preset := none, failed := 0 } :: [] ∧
    (9 : Word) ≠ 0 ∧ (100 ≤ 100) ∧ ((working .identify 2 none).slot 639).occupant = none ∧
    (working .identify 2 none).rpm.bySerial 9 = none ∧ stocked.rpm.bySerial 9 = some 4095 ∧
    (stocked.receiver 4095).state = .stock ∧ (stocked.receiver 4095).slot = none ∧ rackOf 639 = 15 ∧
    stocked.rpm.threshold ≤ 90 ∧ 89 < stocked.rpm.threshold := by decide +kernel

/-- Slot 639 holds receiver 4095, READY at desk 3. -/
def docked : State :=
  (((base.setRack 15 { Rack.initial with desk := some 3 }).setSlot 639
    { Slot.initial with state := .occupied, presence := .present, occupant := some 4095 }).setReceiver 4095
    { Receiver.initial with serial := some 9, state := .ready, slot := some 639, battery := some 100 }).setQueue 3 [4095]

/-- Slot 639 holds receiver 4095 in a state. -/
def holding (state : ReceiverState) : State := docked.setReceiver 4095 { docked.receiver 4095 with state := state }

theorem test_meets_ReceiversAreIdentified_known :
    docked.rpm.bySerial 9 = some 4095 ∧ (docked.receiver 4095).slot = some 639 ∧ (docked.receiver 4095).state = .ready ∧
    (holding .charging).rpm.bySerial 9 = some 4095 ∧ ((holding .charging).receiver 4095).state = .charging ∧
    ((holding .faulty).receiver 4095).state ≠ .charging ∧ ((holding .faulty).receiver 4095).state ≠ .ready ∧
    docked.rpm.threshold ≤ 90 ∧ 89 < docked.rpm.threshold ∧ (hired .faulty 0).rpm.bySerial 9 = some 4095 ∧
    ((hired .faulty 0).receiver 4095).slot = none ∧ ((hired .loose 0).receiver 4095).state = .loose := by decide +kernel

theorem test_meets_RacksAndSlotsAreSet :
    Ready docked ∧ (15 : Word).toNat < 16 ∧ deskField 0 3 = some (some 3) ∧ deskField 1 0xFFFFFFFF = some none ∧
    intervalField 20 = some 20 ∧ intervalField 2560 = some 2560 ∧ some 3 = (docked.rack 15).desk ∧
    (∀ i ∈ slotsOf 14, (docked.slot i).occupant = none) ∧ none ≠ (docked.rack 15).desk ∧
    (∃ i ∈ slotsOf 15, (docked.slot i).occupant ≠ none) ∧ (639 : Word).toNat < 640 ∧ onOff 1 = some true ∧
    onOff 0 = some false ∧ true = ((docked.slot 639).state != .disabled) ∧ (docked.slot 638).state = .disabled ∧
    (docked.slot 639).occupant ≠ none ∧
    ({ Slot.initial with state := .empty } : Slot).state ≠ .disabled ∧
    ({ Slot.initial with state := .empty } : Slot).occupant = none ∧
    ({ Slot.initial with state := .issuing } : Slot).state = .issuing := by
  refine ⟨rfl, ?_⟩; decide +kernel

theorem test_meets_SettingsAreTaken :
    Ready base ∧ (31 : Word).toNat < 32 ∧ pickField 0xFFFFFFFE = some .floor ∧
    listening.pls.relayCheck listening.picks 31 .floor = none ∧ pickField 47 = some (.language 47) ∧
    listening.pls.relayCheck listening.picks 31 (.language 47) = some .notCarried ∧
    settingsOf 1 60 5 0 0 1 0 = some { mode := .handover, window := 60, dutyLimit := 5, loginRequired := false,
                                       snoop := false, forced := .b, relayLock := false } ∧
    settingsOf 0 0 60 1 1 0 1 = some { mode := .exclusive, window := 0, dutyLimit := 60, loginRequired := true,
                                       snoop := true, forced := .a, relayLock := true } ∧
    (listening.booth 31).holder = none ∧
    31 < (32 : Word).toNat ∧ pickField 48 = none ∧ settingsOf 3 0 5 0 0 0 0 = none ∧ settingsOf 0 61 5 0 0 0 0 = none ∧
    1 < (2 : Word).toNat ∧ onOff 1 = some true ∧ base.rks.night ≠ true ∧ onOff 0 = some false ∧ base.rks.night = false ∧
    ((base.setRack 15 { Rack.initial with lastScan := some 0 }).rack 15).lastScan = some 0 ∧
    10 ≤ (10 : Word).toNat ∧ (600 : Word).toNat ≤ 600 ∧ (9 : Word).toNat < 10 ∧ 600 < (601 : Word).toNat ∧
    50 ≤ (50 : Word).toNat ∧ (100 : Word).toNat ≤ 100 ∧ (120 : Word).toNat ≤ 120 ∧ (49 : Word).toNat < 50 ∧
    120 < (121 : Word).toNat ∧ (7 : Word).toNat < 8 ∧ tariffOf 240 1000000 1000000 72 1000000 72 10000000 20000000 1000000 ≠ none ∧
    tariffOf 15 0 0 1 0 0 0 0 0 ≠ none ∧ 8 ≤ (8 : Word).toNat ∧ (1 : Word).toNat < (2 : Word).toNat ∧
    240 < (241 : Word).toNat := by
  refine ⟨rfl, ?_⟩; decide +kernel

theorem test_meets_SlotsAreIdentified :
    Ready docked ∧ (639 : Word).toNat < 640 ∧ (docked.slot 639).state = .occupied ∧
    (∀ j ∈ (docked.rack (rackOf 639)).jobs, j.slot = 639 → j.kind ≠ .identify) ∧
    (∃ j ∈ ((working .identify 1 none).rack (rackOf 639)).jobs, j.slot = 639 ∧ j.kind = .identify) ∧
    (((working .identify 1 none).setSlot 639 { Slot.initial with state := .fault }).slot 639).state = .fault ∧
    (docked.slot 638).state = .disabled ∧
    ((docked.setSlot 638 { Slot.initial with state := .ident }).slot 638).state = .ident := by
  refine ⟨rfl, ?_⟩; decide +kernel

theorem test_meets_HireReads :
    Ready docked ∧ (639 : Word).toNat < 640 ∧ (15 : Word).toNat < 16 ∧ (3 : Word).toNat < 4 ∧
    docked.rpm.bySerial 9 = some 4095 ∧ docked.rpm.bySerial 8 = none ∧ (4095 : Word).toNat < 4096 ∧
    hallField docked.cpi.window 5 = some 5 ∧ (7 : Word).toNat < 8 := by
  refine ⟨rfl, ?_⟩; decide +kernel

theorem test_meets_ReceiversAreRegistered :
    Ready base ∧ (9 : Word) ≠ 0 ∧ base.rpm.bySerial 9 = none ∧ (base.receiver 0).state = .free ∧ 0 < 4096 ∧
    stocked.rpm.bySerial 9 ≠ none ∧ (stocked.receiver 4095).slot = none ∧
    (stocked.receiver 4095).state ≠ .issuing ∧ (stocked.receiver 4095).state ≠ .issued ∧
    (stocked.receiver 4095).state ≠ .overdue ∧ (stocked.receiver 4095).state ≠ .lost ∧
    (hired .lost 0).rpm.bySerial 9 = some 4095 ∧ ((hired .lost 0).receiver 4095).state = .lost ∧
    ((hired .lost 0).receiver 4095).hire = some aHire ∧ (stocked.receiver 4095).state = .stock ∧
    (docked.receiver 4095).state = .ready ∧
    ((hired .faulty 0).receiver 4095).state = .faulty ∧ ((hired .faulty 0).receiver 4095).slot = none ∧
    ((docked.setReceiver 4095 { docked.receiver 4095 with state := .faulty }).receiver 4095).slot = some 639 := by
  refine ⟨rfl, ?_⟩; decide +kernel

/-- A table that lists one record at every index below a bound. -/
theorem rises_range {α : Type} (x : α) (n s : Nat) (b : Option Nat) (h : ∀ k, b = some k → k < s) :
    Table.risesFrom b ((List.range' s n).map fun k => (k, x)) = true := by
  induction n generalizing s b with
  | zero => rfl
  | succ n ih =>
    have := ih (s + 1) (some s) (by intro k e; cases e; exact Nat.lt_succ_self s)
    cases b with
    | none => simpa [List.range'_succ, Table.risesFrom] using this
    | some k => simpa [List.range'_succ, Table.risesFrom, h k rfl] using this

theorem lookup_range {α : Type} (x : α) (n s k : Nat) (h : s ≤ k) (h' : k < s + n) :
    Table.lookupCells k ((List.range' s n).map fun k => (k, x)) = some x := by
  induction n generalizing s with
  | zero => omega
  | succ n ih =>
    simp only [List.range'_succ, List.map_cons, Table.lookupCells]
    split
    · rfl
    · exact ih (s + 1) (by omega) (by omega)

/-- Every receiver record is in STOCK. -/
def fullPool : State :=
  { base with rpm := { base.rpm with receivers :=
      ⟨(List.range' 0 4096).map fun k => (k, { Receiver.initial with state := .stock }), rises_range _ _ _ _ (by simp)⟩ } }

theorem test_meets_ReceiversAreRegistered_full (r : Nat) (h : r < 4096) : (fullPool.receiver r).state ≠ .free := by
  have : fullPool.receiver r = { Receiver.initial with state := .stock } := by
    simp only [fullPool, State.receiver, Table.get, Table.lookup, lookup_range _ 4096 0 r (Nat.zero_le r) (by omega)]; rfl
  rw [this]; decide

theorem test_meets_ReceiversAreRegistered_refused :
    base.rpm.bySerial 9 = none ∧ (9 : Word) ≠ 0 ∧ (hired .issued 0).rpm.bySerial 9 = some 4095 ∧
    ((hired .issued 0).receiver 4095).state ∈ [.issuing, .issued, .overdue, .lost] ∧
    ((hired .issued 0).receiver 4095).state ≠ .lost ∧ ((hired .issued 0).receiver 4095).state ∈ [.issued, .overdue, .lost] ∧
    (ticketed.receiver 4095).state = .issuing ∧ (docked.receiver 4095).state ∉ [.issuing, .issued, .overdue, .lost] ∧
    (docked.receiver 4095).slot ≠ none ∧ (docked.receiver 4095).state ≠ .faulty := by decide +kernel

/-- H0 is LIVE and carries language 0, receiver 4095 is READY in slot 639 of desk 3, account 511 is OPEN with credit. -/
def lending : State :=
  { docked with pls := carried.pls
                acu := base.acu.setAccount 511 { Account.initial with state := .opened, creditLimit := 100000000, unitCap := 4 } }

theorem test_meets_IssueIsTaken :
    Ready lending ∧ issueRequest lending.cpi.window 511 0 3 0 = some { account := 511, hall := 0, desk := 3, language := some 0 } ∧
    lending.lowestFreeTicket = some 0 ∧
    lending.issueLanguage { account := 511, hall := 0, desk := 3, language := some 0 } = some 0 ∧
    (lending.pls.effectivePlan 0).carries 0 = true ∧ (lending.hall 0).state = .live ∧ lending.reserveCheck 511 = none ∧
    lending.eligibleHead 3 = some 4095 ∧ (lending.receiver 4095).slot = some 639 ∧
    (lending.slot 639).occupant = some 4095 ∧
    exec (.issue 1 511 0 3 0) lending = .next (after (.issue 1 511 0 3 0) lending) := by
  refine ⟨rfl, ?_, ?_, ?_, ?_, ?_, ?_, ?_, ?_, ?_, rfl⟩ <;> decide +kernel

/-- The refusals of an ISSUE in their order. -/
theorem test_meets_IssueIsTaken_refused :
    issueRequest 0 512 0 3 0 = none ∧
    (∀ t < 8, ((List.range 8).foldl (fun s t => s.setTicket t aTicket) lending).ticket t ≠ none) ∧
    (∃ t < 8, lending.ticket t = none) ∧
    issueRequest 0 511 0 3 0xFFFFFFFF = some { account := 511, hall := 0, desk := 3, language := none } ∧
    lending.issueLanguage { account := 511, hall := 0, desk := 3, language := none } = none ∧
    lending.issueLanguage { account := 511, hall := 0, desk := 3, language := some 47 } = some 47 ∧
    (lending.pls.effectivePlan 0).carries 47 = false ∧ (lending.pls.effectivePlan 0).carries 0 = true ∧
    ((lending.setHall 0 { Hall.initial with state := .tone }).hall 0).state ≠ .live ∧
    lending.reserveCheck 510 = some .accountState ∧ lending.reserveCheck 511 = none ∧ lending.queue 2 = [] := by
  decide +kernel

theorem test_meets_TicketsEnd :
    Ready ticketed ∧ (7 : Word).toNat < 8 ∧ ticketed.ticket 7 = some aTicket ∧ aTicket.isOpen = true ∧
    aTicket.receiver = some 4095 ∧ ({ aTicket with state := .done } : Ticket).isOpen = false ∧ ticketed.ticket 6 = none := by
  refine ⟨rfl, ?_⟩; decide +kernel

/-- Slot 639 holds receiver 4095 under the open ticket 7 and reads empty once. -/
def leaving : State :=
  ticketed.setSlot 639
    { Slot.initial with state := .issuing, presence := .present, occupant := some 4095, candidate := some false }

theorem test_meets_HiresOpenAndClose :
    (ticketed.receiver 4095).state = .issuing ∧ (ticketed.receiver 4095).ticket = some 7 ∧
    ticketed.ticket 7 = some aTicket ∧ aTicket.isOpen = true ∧ ((hired .issued 0).receiver 4095).hire = some aHire ∧
    -- a scan that settles the slot of its receiver ABSENT
    (exchanging (.scan 15 0) leaving).rks.line = some (.scan 15 0) ∧ rackOf 639 = 15 ∧ (leaving.rack 15).silent = false ∧
    (leaving.slot 639).state ≠ .disabled ∧ (leaving.slot 639).occupant = some 4095 ∧
    ((leaving.slot 639).read false).2 = some false ∧ (leaving.receiver 4095).state = .issuing ∧
    -- identifications: no occupant, another one, the same one, the same one while ISSUING
    ((working .identify 1 none).slot 639).occupant = none ∧ (leaving.receiver 4095).serial = some 9 ∧ (9 : Word) ≠ 8 ∧
    (leaving.slot 639).state = .issuing ∧ (docked.slot 639).state ≠ .issuing ∧
    -- known receivers without a slot and in another slot
    (hired .issued 0).rpm.bySerial 9 = some 4095 ∧ ((hired .issued 0).receiver 4095).slot = none ∧
    ((hired .overdue 0).receiver 4095).state = .overdue ∧ ((hired .lost 0).receiver 4095).state = .lost ∧
    docked.rpm.bySerial 9 = some 4095 ∧ (docked.receiver 4095).slot = some 639 ∧ (docked.receiver 4095).state = .ready ∧
    ((docked.setReceiver 4095 { docked.receiver 4095 with state := .charging }).receiver 4095).state = .charging ∧
    ((docked.setReceiver 4095 { docked.receiver 4095 with state := .faulty }).receiver 4095).state = .faulty ∧
    ticketed.rpm.bySerial 9 = some 4095 ∧ (ticketed.receiver 4095).slot = some 639 ∧
    startedBlocks 3600 3600 = 1 ∧ startedBlocks 3601 3600 = 2 ∧
    -- a step of a ticket, a twin in flight and none
    ({ aTicket with state := .presetting, step := some .presetWait } : Ticket).state = .presetting ∧
    ((working .latchOpen 1 none).rack (rackOf 639)).attempt ≠ none ∧
    ((working .latchOpen 1 none).rack (rackOf 639)).jobs.head?.any (fun j => j.slot == 639 && j.kind == .latchOpen) = true ∧
    (docked.rack (rackOf 639)).attempt = none ∧
    -- a failure: another receiver is eligible, none is, the third attempt
    aTicket.attempts < 3 ∧ docked.eligibleHead aTicket.desk = some 4095 ∧ ticketed.eligibleHead aTicket.desk = none ∧
    3 ≤ ({ aTicket with attempts := 3 } : Ticket).attempts := by decide +kernel

/-- The open ticket 7 holds receiver 4095 in slot 639, in FAULT; receiver 4094 is READY in slot 638 of its desk. -/
def relieved : State :=
  (((((ticketed.setRack 15 { Rack.initial with desk := some 3 }).setSlot 639
    { Slot.initial with state := .fault, presence := .present, occupant := some 4095 }).setSlot 638
    { Slot.initial with state := .occupied, presence := .present, occupant := some 4094, attention := true }).setReceiver 4094
    { Receiver.initial with serial := some 8, state := .ready, slot := some 638 }).setQueue 3 [4094])

theorem test_meets_HiresOpenAndClose_failures :
    (relieved.receiver 4095).state = .issuing ∧ relieved.ticket 7 = some aTicket ∧ aTicket.attempts < 3 ∧
    relieved.eligibleHead aTicket.desk = some 4094 ∧ 4094 ≠ 4095 ∧ (relieved.receiver 4094).slot = some 638 ∧
    (relieved.slot 638).occupant = some 4094 ∧ (relieved.rack (rackOf 638)).attempt = none ∧ (relieved.slot 639).state = .fault ∧
    aTicket.state = .awaitPickup ∧ ({ aTicket with state := .presetting, step := some .presetWait } : Ticket).state ≠ .awaitPickup ∧
    -- departures and failures outside a ticket, and the slot change of an identification
    ((holding .charging).receiver 4095).state = .charging ∧ ((holding .ready).receiver 4095).state = .ready ∧
    ((holding .faulty).receiver 4095).state = .faulty ∧ (arriving.slot 639).attention = true ∧
    (arriving.slot 639).state ≠ .occupied := by decide +kernel

/-- Slot 639 is the one slot of rack 15 that is not DISABLED. -/
theorem test_meets_HiresOpenAndClose_alone (i : Nat) (h : i ≠ 639) : (leaving.slot i).state = .disabled :=
  Table.get_all (P := fun i x => i ≠ 639 → x.state = SlotState.disabled) (d := Slot.initial) (by intro k _; rfl)
    (by decide +kernel) i h

theorem test_meets_AccountsAreSet :
    Ready base ∧ (511 : Word).toNat < 512 ∧ kindField 3 = some .interpreter ∧
    accountSettings .interpreter 0x412D3900 0 7 100000000 64 1 5 0xFFFFFFFF =
      some { name := [65, 45, 57], tariff := 7, creditLimit := 100000000, unitCap := 64, hireEnd := some 5,
             preference := none } ∧
    accountSettings .delegate 0x41000000 0 0 0 4 0 0 0 =
      some { name := [65], tariff := 0, creditLimit := 0, unitCap := 4, hireEnd := none, preference := some 0 } ∧
    (base.account 511).state = .free ∧ (lending.account 511).state ≠ .free ∧ (lending.account 511).state = .opened ∧
    lending.label 0 ≠ none ∧ base.label 0 = none ∧ 511 < (512 : Word).toNat ∧ kindField 4 = none ∧
    accountSettings .delegate 0x41000000 0 0 0 5 0 0 0 = none ∧ (base.account 511).state = .free := by
  refine ⟨rfl, ?_⟩; decide +kernel

theorem test_meets_BalancesArePosted :
    Ready lending ∧ (511 : Word).toNat < 512 ∧ (0x77359400 : Word).toInt = 2000000000 ∧ (0x88CA6C00 : Word).toInt = -2000000000 ∧
    (lending.account 511).state ≠ .free ∧ (lending.account 511).frozen = false ∧
    ((lending.setAccount 511 { lending.account 511 with frozen := true }).account 511).frozen = true ∧
    (lending.account 511).state = .opened ∧ (0x77359401 : Word).toInt = 2000000001 ∧ (0x88CA6BFF : Word).toInt = -2000000001 ∧
    512 ≤ (512 : Word).toNat ∧ (lending.account 0).state = .free := by
  refine ⟨rfl, ?_⟩; decide +kernel

theorem test_meets_CausesFaultsAndAttention :
    Ready base ∧ (131071 : Word).toNat < 131072 ∧ 131072 ≤ (131072 : Word).toNat := by
  refine ⟨rfl, ?_⟩; decide +kernel

theorem test_meets_ResetRequestsAreTaken :
    Ready ticketed ∧ ticketed.ticket 7 = some aTicket ∧ (7 : Nat) < 8 ∧ (2 : Word) ≠ 0 ∧ (2 : Word) ≠ 1 ∧
    (aTicket.isOpen = true ∧ aTicket.receiver = some 4095) ∧ (applying 1).pls.operation ≠ none ∧ base.pls.operation = none := by
  refine ⟨rfl, ?_⟩; decide +kernel

/-- No destination is STUCK, no rack SILENT, and the condition faults follow their conditions. -/
theorem test_meets_ResetRequestsAreTaken_faults :
    (∀ d, (base.route d).status = .stuck → d < 224) ∧ (∀ k, (base.rack k).silent = true → k < 16) ∧
    FaultsFollowConditions base :=
  ⟨fun _ (h : RouteStatus.pending = .stuck) => (nomatch h), fun _ (h : false = true) => (nomatch h),
    by unfold FaultsFollowConditions; decide +kernel⟩

/-! ## Witnesses of the clauses on tables, words and values out of range -/

theorem test_meets_WindowAndCursor_tables :
    ticketed.ticket 7 = some aTicket ∧ ticketed.ticket 8 = none ∧ inFilter 0 0 = true ∧ inFilter 512 9 = true ∧ inFilter 1 9 = false := by
  decide +kernel

/-- A command outstanding for destination 0, which stands in a list: URGENT, BULK behind another, or none. -/
def listed (urgent bulk : List Nat) : Rte :=
  { Rte.reset with urgent := urgent, bulk := bulk, outstanding := some { lastSet with destination := 0 } }

theorem test_meets_PlanLinkAndFloorReads_values :
    onOff 2 = none ∧ (6 : Word) ≠ noneWord ∧ hallField base.cpi.window 6 = none ∧ optBelow 32 32 = none ∧
    (0 : Word).toNat < 1 ∧ 31 < (32 : Word).toNat ∧ 224 ≤ (224 : Word).toNat ∧ 2 ≤ (2 : Word).toNat ∧ 32 ≤ (32 : Word).toNat ∧
    96 ≤ (96 : Word).toNat ∧ 1 < (2 : Word).toNat ∧
    -- a destination in either list, and in none
    223 ∉ (listed [] []).urgent ∧ 223 ∉ (listed [] []).bulk ∧ (listed [7, 223] []).urgent = [7] ++ 223 :: [] ∧ 223 ∉ [7] ∧
    223 ∉ (listed [7] [223]).urgent ∧ (listed [7] [223]).bulk = [] ++ 223 :: [] ∧ Rte.reset.outstanding = none ∧
    (∃ c, (listed [] []).outstanding = some c ∧ c.destination = 0 ∧ c.destination ≠ 223) ∧
    -- a booth that holds channel 1, that waits for it, and that has no place
    (talking.token (busOf (talking.pls.boothHall 0) 1)).holder = some 0 ∧
    (∀ c < 32, ((queued (shared .firstHolds .exclusive)).token (busOf 0 c)).holder ≠ some 1) ∧
    ((queued (shared .firstHolds .exclusive)).token (busOf 0 1)).waits = [] ++ 1 :: [] ∧
    (∀ c < 32, (talking.token (busOf 0 c)).holder ≠ some 1 ∧ 1 ∉ (talking.token (busOf 0 c)).waits) := by
  refine ⟨?_, ?_, ?_, ?_, ?_, ?_, ?_, ?_, ?_, ?_, ?_, ?_, ?_, ?_, ?_, ?_, ?_, ?_, ⟨_, rfl, ?_⟩, ?_, ?_, ?_, ?_⟩ <;> decide +kernel

theorem test_meets_MicIsForcedOff_values : 96 ≤ (96 : Word).toNat := by decide

theorem test_meets_HireSharesOfATick_slot :
    leaving.ticket 7 = some aTicket ∧ aTicket.state = .awaitPickup ∧ aTicket.timer = 1 ∧ aTicket.receiver = some 4095 ∧
    (leaving.receiver 4095).slot = some 639 ∧ (leaving.slot 639).state = .issuing := by decide +kernel

/-- Rack 15 with a job for its last slot, its scan not due; ready for its START, or with its RESULT fallen due. -/
def awaiting (result : Bool) : State :=
  let x := { (working .latchOpen 1 none).rack 15 with nextScan := .at 160 }
  base.setRack 15 (if result then { x with attempt := some { number := 1, began := 0, resultDue := some (.fallen 7) } }
    else { x with attempt := none })

/-- No rack has its scan due. -/
def quietLine (s : State) : State :=
  (List.range 16).foldl (fun t k => t.setRack k { t.rack k with nextScan := .at 160 }) s

theorem test_meets_RackLineRuns_next :
    Ready base ∧ base.rks.line = none ∧ (exchanging (.scan 15 0) base).rks.line ≠ none ∧
    -- a RESULT fallen due at rack 15 alone; every SCAN fallen due at 0, the first that of rack 0; a START ready at rack 15 alone; nothing
    ((awaiting true).rks.rack 15).attempt = some { number := 1, began := 0, resultDue := some (.fallen 7) } ∧
    ((awaiting true).rks.rack 15).jobs = { slot := 639, kind := .latchOpen, origin := .host, preset := none, failed := 0 } :: [] ∧
    (∀ k < 15, ((awaiting true).rks.rack k).attempt = none) ∧
    (∀ k < 16, (base.rks.rack k).nextScan = .fallen 0 ∧ (base.rks.rack k).attempt = none) ∧
    (∀ k < 16, ((quietLine (awaiting false)).rks.rack k).attempt = none ∧
      ((quietLine (awaiting false)).rks.rack k).nextScan = .at 160) ∧
    ((quietLine (awaiting false)).rks.rack 15).jobs =
      { slot := 639, kind := .latchOpen, origin := .host, preset := none, failed := 0 } :: [] ∧
    (((quietLine (awaiting false)).rks.rack 15).noteReady 9).startReady = some 9 ∧
    (∀ k < 15, (((quietLine (awaiting false)).rks.rack k).noteReady 9).startReady = none) ∧
    (∀ k < 16, (((quietLine base).rks.rack k).noteReady 9).startReady = none) := by
  refine ⟨rfl, ?_⟩; decide +kernel

theorem test_meets_RacksAndSlotsAreSet_values :
    16 ≤ (16 : Word).toNat ∧ 1 < (2 : Word).toNat ∧ (0 : Word) = 0 ∧ 4 ≤ (4 : Word).toNat ∧ intervalField 19 = none ∧
    intervalField 2561 = none ∧ 640 ≤ (640 : Word).toNat := by decide

/-- Booth 31 listens in the LIVE hall H0, which carries language 0. -/
def relaying : State :=
  { listening with pls := { listening.pls with
      active := listening.pls.active.setBooth 31 { home := 0, a := none, b := none, relay := .floor } } }

theorem test_meets_SettingsAreTaken_relay :
    Ready relaying ∧ (relaying.booth 31).pick ≠ .language 0 ∧ (relaying.booth 31).pick = .floor ∧ boothOf 93 = 31 ∧
    relaying.pls.relayCheck relaying.picks 31 (.language 0) = none ∧
    -- the desired source of W31, as it is and as it would be; the status and the confirmed source of its record
    (after (.setRelay 1 31 0) relaying).desiredSource 223 ≠ (relaying.route 223).desired ∧
    (relaying.route 223).status ≠ .stuck ∧
    (relaying.route 223).confirmed ≠ some ((after (.setRelay 1 31 0) relaying).desiredSource 223) ∧
    ((relaying.setRoute 223 { Route.initial with status := .stuck }).route 223).status = .stuck ∧
    ((relaying.setRoute 223 { Route.initial with confirmed := some (.bus (busOf 0 1)) }).route 223).confirmed =
      some ((after (.setRelay 1 31 0) relaying).desiredSource 223) ∧
    223 ∉ relaying.rte.urgent := by
  refine ⟨rfl, ?_⟩; decide +kernel

theorem test_meets_SettingsAreTaken_direction :
    let s := shared .firstHolds .exclusive
    let taken := s.setToken (busOf 0 2) { ChannelToken.initial with holder := some 1, waits := [0] }
    Ready s ∧ settingsOf 0 0 30 0 0 0 0 ≠ none ∧ settingsOf 0 0 30 0 0 1 0 ≠ none ∧ (s.booth 0).holder = some 0 ∧ boothOf 0 = 0 ∧
    (s.booth 0).direction = .a ∧ s.pls.boothChannel 0 .b = some 2 ∧ (s.token (busOf (s.pls.boothHall 0) 2)).holder = none ∧
    (taken.token (busOf (taken.pls.boothHall 0) 2)).holder = some 1 ∧ 0 ∉ (taken.token (busOf 0 2)).waits.erase 0 ∧
    (taken.booth 0).requests = [] ∧ talking.pls.boothChannel 0 .b = none ∧ (talking.booth 0).requests = [] := by
  refine ⟨rfl, ?_⟩; decide +kernel

theorem test_meets_SettingsAreTaken_direction_at_home :
    HoldersAtHome (shared .firstHolds .exclusive) ∧
    HoldersAtHome ((shared .firstHolds .exclusive).setToken (busOf 0 2) { ChannelToken.initial with holder := some 1, waits := [0] }) :=
  ⟨holders_at_home (by decide +kernel), holders_at_home (by decide +kernel)⟩

/-- Jobs of slot 639 of each kind. -/
def jobOf (kind : JobKind) : Job := { slot := 639, kind := kind, origin := .rpm, preset := none, failed := 0 }

theorem test_meets_SlotsAreIdentified_queue :
    640 ≤ (640 : Word).toNat ∧ (docked.slot (jobOf .identify).slot).state = .occupied ∧
    (base.slot (jobOf .identify).slot).state = .disabled ∧
    -- a twin in flight, a twin that waits, none, with an issue job ahead of an IDENTIFY
    (∃ i ∈ ((working .preset 1 none).rack 15).jobs.take 1, i.slot = (jobOf .preset).slot ∧ i.kind = (jobOf .preset).kind) ∧
    ((working .preset 1 none).rack 15).attempt ≠ none ∧ (docked.rack 15).attempt = none ∧
    (∃ i ∈ [jobOf .preset], i.slot = 639 ∧ i.kind = .preset) ∧ (jobOf .latchOpen).kind ≠ .identify ∧
    ([jobOf .preset, jobOf .identify] = [jobOf .preset] ++ [jobOf .identify] ∧ (∀ i ∈ [jobOf .identify], i.kind = .identify) ∧
      ∀ i, [jobOf .preset].getLast? = some i → i.kind ≠ .identify) := by
  refine ⟨?_, ?_, ?_, ?_, ?_, ?_, ?_, ?_, rfl, ?_, fun i e => ?_⟩
  all_goals first | decide +kernel | (cases e; decide)

theorem test_meets_HireReads_values :
    640 ≤ (640 : Word).toNat ∧ 16 ≤ (16 : Word).toNat ∧ 4 ≤ (4 : Word).toNat ∧ 1 < (2 : Word).toNat ∧ 4096 ≤ (4096 : Word).toNat ∧
    hallField docked.cpi.window 6 = none ∧ 8 ≤ (8 : Word).toNat ∧
    -- a rack with an attempt in progress and one without
    ((working .identify 1 none).rack 15).attempt = some { number := 1, began := 0, resultDue := none } ∧
    ((working .identify 1 none).rack 15).jobs = { slot := 639, kind := .identify, origin := .host, preset := none, failed := 0 } :: [] ∧
    (docked.rack 15).attempt = none ∧
    -- a receiver at the head of a queue and one in none
    docked.queue 3 = [] ++ 4095 :: [] ∧ (∀ e < 3, 4095 ∉ docked.queue e) ∧ (∀ d < 4, 0 ∉ docked.queue d) := by decide +kernel

/-- No ticket stands beyond the eight. -/
theorem test_meets_HireReads_tickets (t : Nat) (h : 8 ≤ t) : ticketed.ticket t = none := by
  have hk : ∀ p ∈ ticketed.rpm.tickets.cells, p.1 < 8 := by decide +kernel
  rcases hx : ticketed.rpm.tickets.lookup t with _ | x
  · exact hx
  · exact absurd (hk _ (Table.mem_of_lookupCells hx)) (by simpa using h)

theorem test_meets_TicketsEnd_slot :
    Ready leaving ∧ leaving.ticket 7 = some aTicket ∧ aTicket.isOpen = true ∧ aTicket.receiver = some 4095 ∧
    (leaving.receiver 4095).slot = some 639 ∧ (leaving.slot 639).state = .issuing ∧ 8 ≤ (8 : Word).toNat ∧
    ({ aTicket with receiver := none } : Ticket).receiver = none := by
  refine ⟨rfl, ?_⟩; decide +kernel

theorem test_meets_BalancesArePosted_reads :
    Ready base ∧ (0 : Word).toNat < 512 ∧ (base.account 0).state = .free ∧ 512 ≤ (512 : Word).toNat ∧ 1 < (2 : Word).toNat := by
  refine ⟨rfl, ?_⟩; decide +kernel

/-! ## Well-formedness: each check refuses an ill-formed term -/

theorem test_ill_formed_frameError : (Instr.frameError []).wellFormed = false := by decide
theorem test_ill_formed_matrixDone : (Instr.matrixDone 224 0).wellFormed = false := by decide
theorem test_ill_formed_matrixReject : (Instr.matrixReject 255 0 .busy).wellFormed = false := by decide
theorem test_ill_formed_bbPollReply :
    (Instr.bbPollReply 0 { quietReply with indication := .cueOut .relayTakers [31] }).wellFormed = false := by decide
theorem test_ill_formed_bbProbeReply :
    (Instr.bbProbeReply 0 { quietReply with indication := .cueOut (.booth 0) (List.replicate 16 65) }).wellFormed = false := by
  decide
theorem test_ill_formed_serviceMinute : (Instr.serviceMinute 0 0).wellFormed = false := by decide
theorem test_ill_formed_rlScanReply : (Instr.rlScanReply 0 (List.replicate 39 true)).wellFormed = false := by decide +kernel
theorem test_ill_formed_rlResultReply_position : (Instr.rlResultReply 0 40 .done).wellFormed = false := by decide
theorem test_ill_formed_rlResultReply_battery : (Instr.rlResultReply 0 39 (.doneIdentify 9 101 .ok)).wellFormed = false := by
  decide
theorem test_ill_formed_resetLinks : (Instr.resetLinks 0 1).wellFormed = false := by decide

/-! ## Frames, written out from the layouts of 9.5 -/

/-- The check value of the digits 1 to 9 (9.5). -/
theorem test_crc_of_the_digits : crc16 [0x31, 0x32, 0x33, 0x34, 0x35, 0x36, 0x37, 0x38, 0x39] = 0x29B1 := by decide +kernel

/-- Code 0x01, one body word, tag 90, hall 3. -/
theorem test_select_hall_frame : decodeExchange [0x01, 0x01, 0x00, 0x5A, 0x00, 0x00, 0x00, 0x03] = some (.selectHall 90 3) := by
  decide +kernel

/-- Code 0x13, five body words: WINDOW, channel 31, no language, SILENCE, LAST_TAKES. -/
theorem test_set_channel_frame :
    decodeExchange [0x13, 0x05, 0x12, 0x34, 0xFF, 0xFF, 0xFF, 0xFC, 0, 0, 0, 0x1F, 0xFF, 0xFF, 0xFF, 0xFF, 0xFF, 0xFF, 0xFF, 0xFD,
      0, 0, 0, 1] = some (.setChannel 0x1234 0xFFFFFFFC 31 0xFFFFFFFF 0xFFFFFFFD 1) := by decide +kernel

/-- The two scopes of the RESET request. -/
theorem test_reset_frames :
    decodeExchange [0x96, 0x01, 0, 7, 0, 0, 0, 0] = some (.resetLinks 7 0) ∧
    decodeExchange [0x96, 0x01, 0, 7, 0, 0, 0, 1] = some (.resetAll 7) := by decide +kernel

/-- An exchange of one byte is a frame error. -/
theorem test_short_exchange : decodeExchange [0x01] = some (.frameError [0x01]) := by decide +kernel

/-- A DONE for destination 223 with link tag 3, and one with its check spoiled. -/
theorem test_done_frame :
    decodeMatrix (sealFrame [0x11, 0xDF, 0x03]) = some (.matrixDone 223 3) ∧ decodeMatrix [0x11, 0xDF, 0x03, 0, 0] = none := by
  decide +kernel

/-- TAKEN with bit 1, MIC_REQUEST with bit 1, from console 95. -/
theorem test_reply_frame :
    decodeReply (sealFrame [0x5F, 0xB1]) =
      some { address := 95, ack := .taken, ackBit := true, indicationBit := true, indication := .micRequest } := by
  decide +kernel

/-- SELECT_HALL 3 with tag 90 as the bits of CP_DIN, three bits over; while RESET_N is low nothing is taken. -/
theorem test_exchange_bits :
    decodeBits (([0x01, 0x01, 0x00, 0x5A, 0x00, 0x00, 0x00, 0x03] : List Byte).flatMap byteBits ++ [true, true, false]) =
      some (.selectHall 90 3) ∧
    portCommands { selN := true, sck := false, bits := none, shown := 0 }
      [{ selN := false, sck := false, din := false, resetN := true }, { selN := false, sck := true, din := true, resetN := true },
        { selN := false, sck := false, din := false, resetN := false }, { selN := true, sck := false, din := false, resetN := true }]
      = [] := by decide +kernel

/-- A status byte of 0x81 on CP_DOUT: the bit that stands there changes where CP_SCK falls and not where it rises; after the
exchange, and while RESET_N is low, it is not driven. -/
theorem test_port_output :
    ({ State.reset.cpi with status := 0x81, delivered := none } : Cpi).drivenLevels { selN := true, sck := true, bits := none, shown := 5 }
      [{ selN := false, sck := true, din := false, resetN := true }, { selN := false, sck := false, din := true, resetN := true },
        { selN := false, sck := true, din := true, resetN := true }, { selN := false, sck := false, din := true, resetN := true },
        { selN := false, sck := true, din := true, resetN := true }, { selN := true, sck := true, din := true, resetN := true },
        { selN := false, sck := true, din := true, resetN := false }]
      = [some true, some true, some true, some false, some false, none, none] := by decide +kernel

/-- A reply of console 95 on the line, cut off by a pause of more than two characters, and cut short. -/
theorem test_reply_line :
    boothCommand 1 false (lineBits (sealFrame [0x5F, 0xB1]) ++ List.replicate 21 true ++ lineBits [0]) =
      some (.bbPollReply 1 { address := 95, ack := .taken, ackBit := true, indicationBit := true, indication := .micRequest }) ∧
    boothCommand 1 true (lineBits [0x5F, 0xB1]) = some (.bbMalformedReply 1) ∧ boothCommand 1 true [] = none ∧
    matrixCommand (lineBits (sealFrame [0x13])) = some .alert ∧
    rackCommand false (lineBits (sealFrame [0xA3, 0x01])) = some (.rlStartReply 3 false) := by decide +kernel

/-! ## Commands, one step each -/

/-- A join without a commit: both halls of (H0, H1) show the senior's plan, and their booths are out of the floor. -/
theorem test_join : (after (.joinHalls 1 1) (pair false)).pls.joined 0 = true ∧
    (after (.joinHalls 1 1) (pair false)).pls.effectiveHall 1 = 0 := by decide +kernel

/-- A junior's state cannot be set: the answer of the port's worked example, one exchange behind (R181). -/
theorem test_junior_is_refused :
    (after (.setHallState 3 1 1) (pair true)).cpi.held = { result := .joined, code := 0x22, tag := 3, body := [] } ∧
    (after (.setHallState 3 1 1) (pair true)).cpi.delivered = some (pair true).cpi.held := by decide +kernel

/-- The map of a hall's effective plan holds the label of the language carried, and its other entries are empty (R41). -/
theorem test_map : (carried.pls.beaconMap 0).lookup 1 = some [69, 78] ∧ (carried.pls.beaconMap 0).lookup 0 = none ∧
    (carried.pls.beaconMap 0).lookup 31 = none := by decide +kernel

/-- A hall that goes LIVE begins its first beacon frame, which names the hall and its map (R40). -/
theorem test_hall_goes_live :
    let s := carried.setHall 0 Hall.initial
    ((after (.setHallState 1 0 0) s).hall 0).state = .live ∧ ((after (.setHallState 1 0 0) s).hall 0).nextFrame = 500 ∧
    ((after (.setHallState 1 0 0) s).hall 0).sent.length = 132 := by decide +kernel

/-- The commit of the draft marks the destinations whose desired source changes. -/
theorem test_commit : (after (.commitPlan 1 0) carried).cpi.held = { result := .accepted, code := 0x17, tag := 1, body := [1] } := by
  decide +kernel

/-- The chain of the example under R16: after the default of booth 12 becomes Spanish, booth 14's pick is too deep. -/
theorem test_relay_chain :
    let hall := ((((HallPlan.initial.setEntry 1 { Entry.empty with language := some 0 }).setEntry 2
      { Entry.empty with language := some 1 }).setEntry 3 { Entry.empty with language := some 2 }).setEntry 4
      { Entry.empty with language := some 3 })
    let feeds := fun l => ({ home := 2, a := some l, b := none, relay := .floor } : BoothPlan)
    let plan := ((((Plan.initial.setHall 2 hall).setBooth 12 (feeds 0)).setBooth 13 (feeds 1)).setBooth 14 (feeds 2)).setBooth 15
      (feeds 3)
    let p := { Pls.reset with active := plan }
    let picks := fun b => if b = 12 then Pick.language 3 else if b = 13 then .language 0 else if b = 14 then .language 1 else .floor
    p.relayCheck picks 12 (.language 3) = none ∧ p.relayCheck picks 13 (.language 0) = none ∧
      p.relayCheck picks 14 (.language 1) = some .relayDepth := by decide +kernel

/-- The first PRESENT resyncs: every destination waits, and the link takes the lowest. -/
theorem test_present : ((after .present (down base)).rte.outstanding.map SetCommand.destination) = some 0 ∧
    (after .present (down base)).rte.bulk.length = 224 := by decide +kernel

/-- The fourth timeout in a row takes the link DOWN, and MATRIX_DOWN enters the fault set. -/
theorem test_fourth_timeout :
    (after .matrixConfirmTimeout (outstanding lastSet { base with rte := { base.rte with timeouts := 3 } })).tau.hasFault
      .matrixDown = true := by decide +kernel

/-- A probe that is answered brings the console ONLINE, and its first poll carries IDENT. -/
theorem test_probe_reply : ((after (.bbProbeReply 0 quietReply) (probed 0 base)).link 0).state = .online ∧
    ((after (.bbProbeReply 0 quietReply) (probed 0 base)).bbc.segment0.transaction.map BusTransaction.carried) = some true := by
  decide +kernel

/-- A request for the microphone in a LIVE hall, granted; and its release. -/
theorem test_mic_request : ((after (.bbPollReply 0 micReply) (polled 0 false listening)).floor 0).mic = .live := by decide +kernel
theorem test_mic_release :
    ((after (.bbPollReply 0 { micReply with indication := .micRelease }) (polled 0 false talking)).floor 0).mic = .off ∧
    ((after (.bbPollReply 0 { micReply with indication := .micRelease }) (polled 0 false talking)).token (busOf 0 1)).holder =
      none := by decide +kernel

/-- A late reply of a console whose probe a reset abandoned is ignored (R85). -/
theorem test_late_probe_reply :
    exec (.bbProbeReply 0 quietReply) (after (.resetLinks 9 0) (probed 0 base)) = .next (after (.resetLinks 9 0) (probed 0 base)).settle ∧
    ((after (.bbProbeReply 0 quietReply) (after (.resetLinks 9 0) (probed 0 base))).link 0).state = .absent :=
  ⟨rfl, by decide +kernel⟩

/-- A scan whose moment a change of profile leaves behind falls due at the change, not before it (R117). -/
theorem test_profile_change :
    let s := { base.setRack 15 { Rack.initial with lastScan := some 0, nextScan := .at 1280 } with
      rks := { (base.setRack 15 { Rack.initial with lastScan := some 0, nextScan := .at 1280 }).rks with night := true }
      tau := { base.tau with now := 500 } }
    ((s.setProfile false).rack 15).nextScan = .fallen 500 := by decide +kernel

/-- A service minute is posted at the 60th second. -/
theorem test_service_minute : ((after (.serviceMinute 0 1) serving).token (busOf 0 1)).service = 0 ∧
    ((after (.serviceMinute 0 1) serving).account 511).serviceSeconds = 1 := by decide +kernel

/-- The return charge of the example under R153. -/
theorem test_return_charge :
    Tariff.charge { Tariff.initial with blockLength := 60, blockRate := 400, cap := 2000, overdueRate := 500 }
      { aHire with issueTime := 30000, dueTime := 66000 } 70000 = 3000 := by decide

/-- An issue reserves a unit and queues the PRESET; the receiver departs and the hire begins. -/
theorem test_issue : ((after (.issue 1 511 0 3 0) lending).account 511).unitsPending = 1 ∧
    ((after (.issue 1 511 0 3 0) lending).rack 15).jobs.length = 1 := by decide +kernel

/-- A hire 48 hours past its due time is LOST. -/
theorem test_hire_lost : ((after (.hireLost 4095) (hired .overdue 90001)).receiver 4095).state = .lost ∧
    ((after (.hireLost 4095) (hired .overdue 90000)).receiver 4095).state = .overdue := by decide +kernel

/-- A scan that finds a settled slot empty for the second time reports the departure: the hire of R141. -/
theorem test_departure :
    let s := exchanging (.scan 15 0) (docked.setSlot 639 { docked.slot 639 with candidate := some false })
    ((after (.rlScanReply 15 (List.replicate 40 false)) s).receiver 4095).state = .loose ∧
    ((after (.rlScanReply 15 (List.replicate 40 false)) s).slot 639).state = .empty ∧
    (after (.rlScanReply 15 (List.replicate 40 false)) s).queue 3 = [] := by decide +kernel

/-- A tick at the top of the clock leaves it there. -/
theorem test_tick_at_the_top :
    (after .trefPulse { base with tau := { base.tau with clock := 4294967295 } }).tau.clock = 4294967295 := by decide +kernel

/-- The machine after its reset: the recovery ends, the first request is answered one exchange behind with RESET_SEEN. -/
theorem test_first_exchange_after_reset :
    (after (.nop 5) (after .resetRecoveryEnd State.reset)).cpi.delivered = some (Response.resetSeen 0 0) := by decide +kernel

end Sys2Proof.Tests
end

/-! # Languages and the channel plan: the edits of the DRAFT (R8 to R12)

An accepted edit is `State.edit` of one function on plans, a refused one `refuse`; what the port makes of either is said once, and each
request only shows which of the two it is. -/

namespace Sys2Proof.Machine

open Sys2Proof.Safety

/-! ## Fields within their range (R187, 9.5.1) -/

theorem below_of_lt {n : Nat} {w : Word} (h : w.toNat < n) : below n w = some w.toNat := if_pos h

theorem within_of_le {lo hi : Nat} {w : Word} (hlo : lo ≤ w.toNat) (hhi : w.toNat ≤ hi) : within lo hi w = some w.toNat := by
  simp [within, hlo, hhi]

/-- A width field has a value exactly at the four widths of R4, and the value is the width. -/
theorem widthField_eq (w : Word) : widthField w =
    if w.toNat = 8 ∨ w.toNat = 16 ∨ w.toNat = 24 ∨ w.toNat = 32 then some w.toNat else none := by
  simp [widthField, BitVec.toNat_eq, or_assoc]

theorem widthField_of_width {w : Word} (h : w.toNat = 8 ∨ w.toNat = 16 ∨ w.toNat = 24 ∨ w.toNat = 32) :
    widthField w = some w.toNat := by
  rw [widthField_eq, if_pos h]

theorem widthField_eq_none {w : Word} :
    widthField w = none ↔ w.toNat ≠ 8 ∧ w.toNat ≠ 16 ∧ w.toNat ≠ 24 ∧ w.toNat ≠ 32 := by
  simp [widthField_eq]

/-- A hall field is WINDOW, which reads as the hall window, or the number of a hall (R188). -/
theorem hallField_eq (window : Nat) (w : Word) : hallField window w =
    if w = windowWord then some window else if w.toNat < 6 then some w.toNat else none := rfl

/-! ## The commands -/

theorem exec_setWidth (tag : Tag) (hall width : Word) (s : State) :
    exec (.setWidth tag hall width) s = .next (s.serve 0x12 tag (State.setWidth hall width)) := rfl

theorem exec_setChannel (tag : Tag) (hall channel language fallback interlock : Word) (s : State) :
    exec (.setChannel tag hall channel language fallback interlock) s =
      .next (s.serve 0x13 tag (State.setChannel hall channel language fallback interlock)) := rfl

theorem exec_setBoothPlan (tag : Tag) (booth home a b relay : Word) (s : State) :
    exec (.setBoothPlan tag booth home a b relay) s =
      .next (s.serve 0x14 tag (State.setBoothPlan booth home a b relay)) := rfl

theorem exec_clearDraft (tag : Tag) (s : State) :
    exec (.clearDraft tag) s = .next (s.serve 0x15 tag State.clearDraft) := rfl

namespace State

/-! ## Edits -/

/-- An edit served while the port answers: the DRAFT is the one the edit makes, the draft version rises by one and is returned (R11). -/
theorem serve_edit {s : State} {code : Byte} {tag : Tag} {owner : State → Handled} {f : Plan → Plan} (h : Ready s)
    (ho : owner s.deliver = s.deliver.edit f) :
    s.serve code tag owner =
      answered s { s with pls := { s.pls with draft := f s.pls.draft, draftVersion := s.pls.draftVersion + 1 } } code tag .ok
        [natWord (s.pls.draftVersion + 1).toNat] :=
  serve_answered h (congrArg Prod.snd ho) (congrArg Prod.fst ho)

theorem setWidth_eq_edit {s : State} {hall width : Word} {h w : Nat} (hh : hallField s.cpi.window hall = some h)
    (hw : widthField width = some w) :
    s.setWidth hall width = s.edit fun p => p.setHall h { p.hall h with width := w } := by
  simp only [setWidth, hh, hw]

theorem setWidth_refused {s : State} {hall width : Word}
    (h : hallField s.cpi.window hall = none ∨ widthField width = none) : s.setWidth hall width = refuse s .badValue := by
  unfold setWidth
  split
  next hh hw => simp [hh, hw] at h
  next => rfl

theorem setChannel_eq_edit {s : State} {hall channel language fallback interlock : Word} {h c : Nat} {l : Option Nat}
    {f : Fallback} {i : Interlock} (hh : hallField s.cpi.window hall = some h) (hc : within 1 31 channel = some c)
    (hl : optBelow Config.languages language = some l) (hf : fallbackField fallback = some f)
    (hi : interlockField interlock = some i) :
    s.setChannel hall channel language fallback interlock =
      s.edit fun p => p.setHall h ((p.hall h).setEntry c { language := l, fallback := f, interlock := i }) := by
  simp only [setChannel, hh, hc, hl, hf, hi]

theorem setChannel_refused {s : State} {hall channel language fallback interlock : Word}
    (h : hallField s.cpi.window hall = none ∨ within 1 31 channel = none ∨ optBelow Config.languages language = none ∨
      fallbackField fallback = none ∨ interlockField interlock = none) :
    s.setChannel hall channel language fallback interlock = refuse s .badValue := by
  unfold setChannel
  split
  next hh hc hl hf hi => simp [hh, hc, hl, hf, hi] at h
  next => rfl

theorem setBoothPlan_eq_edit {s : State} {booth home a b relay : Word} {n h : Nat} {la lb : Option Nat} {r : Pick}
    (hn : below Config.booths booth = some n) (hh : below Config.halls home = some h)
    (ha : optBelow Config.languages a = some la) (hb : optBelow Config.languages b = some lb) (hr : pickField relay = some r) :
    s.setBoothPlan booth home a b relay =
      s.edit fun p => p.setBooth n { home := h, a := la, b := lb, relay := r } := by
  simp only [setBoothPlan, hn, hh, ha, hb, hr]

theorem setBoothPlan_refused {s : State} {booth home a b relay : Word}
    (h : below Config.booths booth = none ∨ below Config.halls home = none ∨ optBelow Config.languages a = none ∨
      optBelow Config.languages b = none ∨ pickField relay = none) :
    s.setBoothPlan booth home a b relay = refuse s .badValue := by
  unfold setBoothPlan
  split
  next hn hh ha hb hr => simp [hn, hh, ha, hb, hr] at h
  next => rfl

theorem clearDraft_eq_edit {s : State} : s.clearDraft = s.edit fun _ => s.pls.active := rfl

end State

/-! ## The statements -/

/-- Settles O17: a width within R4 on a hall is an edit of that hall part alone, and anything else a refusal. -/
theorem widthIsSet : Obligations.WidthIsSet := by
  refine ⟨?accepted, ?refused, hallField_eq⟩
  case accepted =>
    intro tag hall width h s hs hh hw
    rw [exec_setWidth]
    exact congrArg _ (State.serve_edit hs (State.setWidth_eq_edit hh (widthField_of_width hw)))
  case refused =>
    intro tag hall width s hs hbad
    rw [exec_setWidth]
    exact congrArg _ (State.serve_refused hs (State.setWidth_refused (hbad.imp_right widthField_eq_none.mpr)))

/-- Settles O18: five fields within their ranges are an edit of one entry, and one field outside its range a refusal; the named slots
and the width are not looked at. -/
theorem channelIsSet : Obligations.ChannelIsSet := by
  refine ⟨?accepted, ?refused, hallField_eq⟩
  case accepted =>
    intro tag hall channel language fallback interlock h l f i s hs hh hlo hhi hl hf hi
    rw [exec_setChannel]
    exact congrArg _ (State.serve_edit hs (State.setChannel_eq_edit hh (within_of_le hlo hhi) hl hf hi))
  case refused =>
    intro tag hall channel language fallback interlock s hs hbad
    have hfields : hallField s.cpi.window hall = none ∨ within 1 31 channel = none ∨ optBelow 48 language = none ∨
        fallbackField fallback = none ∨ interlockField interlock = none := by
      rw [within_eq_none, Nat.lt_one_iff, or_assoc]
      exact hbad
    rw [exec_setChannel]
    exact congrArg _ (State.serve_refused hs (State.setChannel_refused hfields))

/-- Settles O19: five fields within their ranges are an edit of one booth part, and one field outside its range a refusal. -/
theorem boothPlanIsSet : Obligations.BoothPlanIsSet := by
  refine ⟨?accepted, ?refused⟩
  case accepted =>
    intro tag booth home a b relay la lb r s hs hn hh ha hb hr
    rw [exec_setBoothPlan]
    exact congrArg _ (State.serve_edit hs (State.setBoothPlan_eq_edit (below_of_lt hn) (below_of_lt hh) ha hb hr))
  case refused =>
    intro tag booth home a b relay s hs hbad
    have hfields : below 32 booth = none ∨ below 6 home = none ∨ optBelow 48 a = none ∨ optBelow 48 b = none ∨
        pickField relay = none := by
      rw [below_eq_none, below_eq_none]
      exact hbad
    rw [exec_setBoothPlan]
    exact congrArg _ (State.serve_refused hs (State.setBoothPlan_refused hfields))

/-- Settles O20: CLEAR_DRAFT is the edit that puts the ACTIVE plan for the DRAFT, with no refusal to take, and 16 bits hold the draft
version modulo 65536. -/
theorem draftIsCleared : Obligations.DraftIsCleared := by
  intro tag s hs
  have hversion : (s.pls.draftVersion + 1).toNat = (s.pls.draftVersion.toNat + 1) % 65536 := BitVec.toNat_add _ _
  rw [exec_clearDraft, ← hversion]
  exact congrArg _ (State.serve_edit (f := fun _ => s.pls.active) hs State.clearDraft_eq_edit)

end Sys2Proof.Machine

/-! # The control port: NOP and the held response (R186)

NOP is the exchange with nothing after it, so what it comes to is what `State.exchange` does. A NOP that follows a reset or a frame error
meets a port that answers normally and holds RESET_SEEN or BAD_FRAME: each of the two commands is read once for what it leaves in the
control port, and one lemma says what the NOP then fetches. -/

namespace Sys2Proof.Machine

open Sys2Proof.Safety

/-! ## Exchanges -/

namespace State

/-- An exchange while the port answers delivers the held response and goes on with what follows it (R181). -/
theorem exchange_of_ready {s : State} (h : Ready s) (act : State → State) : s.exchange act = act s.deliver := by
  have hrec : ¬ s.cpi.recovery.isSome = true := by rw [h]; exact Bool.false_ne_true
  exact if_neg hrec

/-- An exchange met by reset recovery is answered NOT_READY, and nothing follows it (R183). -/
theorem exchange_of_recovery {s : State} (h : s.cpi.recovery ≠ none) (act : State → State) : s.exchange act = s.notReady :=
  if_pos (Option.isSome_iff_ne_none.mpr h)

@[simp] theorem deliver_cpi (s : State) :
    s.deliver.cpi = { s.cpi with status := s.tau.statusByte false, delivered := some s.cpi.held } := rfl

/-- The end of recovery changes the control port in two fields, whether or not it starts the TREF watch. -/
theorem endRecovery_cpi (s : State) (r : Recovery) :
    (s.endRecovery r).cpi = { s.cpi with recovery := none, held := Response.resetSeen r.code r.tag } := by
  unfold endRecovery
  cases r.startsWatch <;> rfl

theorem takeFrameError_cpi (s : State) (frame : List Byte) (reason : FrameReason) :
    (s.takeFrameError frame reason).cpi = { s.cpi with held := badFrame frame reason } := rfl

end State

/-! ## The commands -/

theorem exec_nop (tag : Tag) (s : State) : exec (.nop tag) s = .next (s.exchange fun t => t).settle := rfl

theorem exec_nop_of_ready {s : State} (tag : Tag) (h : Ready s) : exec (.nop tag) s = .next s.deliver.settle := by
  rw [exec_nop, State.exchange_of_ready h]

theorem exec_nop_of_recovery {s : State} (tag : Tag) (h : s.cpi.recovery ≠ none) :
    exec (.nop tag) s = .next s.notReady.settle := by
  rw [exec_nop, State.exchange_of_recovery h]

/-- While the port answers, a NOP fetches the held response and leaves it held (R186). -/
theorem exec_nop_fetches {tag : Tag} {t u : State} (h : Ready t) (hu : exec (.nop tag) t = .next u) :
    u.cpi.delivered = some t.cpi.held ∧ u.cpi.held = t.cpi.held := by
  rw [exec_nop_of_ready tag h] at hu
  injection hu with hu
  subst hu
  exact ⟨rfl, rfl⟩

theorem exec_resetRecoveryEnd (s : State) : exec .resetRecoveryEnd s = execResetRecoveryEnd s := rfl

theorem exec_resetRecoveryEnd_of_recovery {s : State} {r : Recovery} (h : s.cpi.recovery = some r) :
    exec .resetRecoveryEnd s = .next (s.endRecovery r).settle := by
  simp only [exec_resetRecoveryEnd, execResetRecoveryEnd, State.event, h]

/-- After the end of recovery the port answers and holds RESET_SEEN (R184). -/
theorem exec_resetRecoveryEnd_port {s t : State} {r : Recovery} (h : s.cpi.recovery = some r)
    (ht : exec .resetRecoveryEnd s = .next t) : Ready t ∧ t.cpi.held = Response.resetSeen r.code r.tag := by
  rw [exec_resetRecoveryEnd_of_recovery h] at ht
  injection ht with ht
  subst ht
  rw [Ready, State.settle_cpi, State.endRecovery_cpi]
  exact ⟨rfl, rfl⟩

theorem exec_frameError (frame : List Byte) (s : State) : exec (.frameError frame) s = execFrameError frame s := rfl

theorem exec_frameError_of_ready {frame : List Byte} {e : FrameReason} {s : State} (h : Ready s) (hne : frame ≠ [])
    (he : frameReason frame = some e) : exec (.frameError frame) s = .next (s.deliver.takeFrameError frame e).settle := by
  simp only [exec_frameError, execFrameError, State.event, if_neg hne, he, State.exchange_of_ready h]

/-- After a frame error the port still answers and holds BAD_FRAME (R185). -/
theorem exec_frameError_port {frame : List Byte} {e : FrameReason} {s t : State} (h : Ready s) (hne : frame ≠ [])
    (he : frameReason frame = some e) (ht : exec (.frameError frame) s = .next t) :
    Ready t ∧ t.cpi.held = badFrame frame e := by
  rw [exec_frameError_of_ready h hne he] at ht
  injection ht with ht
  subst ht
  rw [Ready, State.settle_cpi, State.takeFrameError_cpi, State.deliver_cpi]
  exact ⟨h, rfl⟩

/-! ## The statement -/

/-- Settles O14: NOP is an exchange that nothing follows, so it delivers the held response or is discarded; after a reset and after a
frame error the response it fetches is the one that the command before it left held. -/
theorem nopRepeatsTheResponse : Obligations.NopRepeatsTheResponse := by
  refine ⟨?answered, ?discarded, ?afterReset, ?afterFrameError⟩
  case answered => exact fun tag _ hs => exec_nop_of_ready tag hs
  case discarded => exact fun tag _ hs => exec_nop_of_recovery tag hs
  case afterReset =>
    intro tag r s t u hr ht hu
    obtain ⟨hready, hheld⟩ := exec_resetRecoveryEnd_port hr ht
    obtain ⟨hdelivered, hkept⟩ := exec_nop_fetches hready hu
    refine ⟨?_, hkept⟩
    rw [hdelivered, hheld]
    rfl
  case afterFrameError =>
    intro tag frame s t u hs hne hreason ht hu
    obtain ⟨e, he⟩ := Option.ne_none_iff_exists'.mp hreason
    obtain ⟨hready, hheld⟩ := exec_frameError_port hs hne he ht
    obtain ⟨hdelivered, hkept⟩ := exec_nop_fetches hready hu
    refine ⟨?_, hkept⟩
    rw [hdelivered, hheld]
    rfl

end Sys2Proof.Machine
